-- ==== Sys2Proof/Word.lean ====
section
/-! DEFINITION. The byte, the limits of the part's numbers (spec/00_scope.md "Conventions") and saturating addition. -/

namespace Sys2Proof

/-- One byte of a frame or record. -/
abbrev Byte := BitVec 8

/-- The largest 16-bit count. -/
abbrev max16 : Nat := 65535

/-- The largest 32-bit count. -/
abbrev max32 : Nat := 4294967295

/-- The limit of a fare, a tender and an amount due, in cents (00 "Money"). -/
abbrev moneyMax : Nat := 9999999

/-- The limit of a shift money counter, in cents (00 "Money"). -/
abbrev shiftMoneyMax : Nat := 999999999

/-- Addition that stays at `limit` instead of passing it. -/
def satAdd (limit a b : Nat) : Nat := min limit (a + b)

/-- The `n` bytes of `v`, least significant byte first (R201). -/
def leBytes : Nat → Nat → List Byte
  | 0, _ => []
  | n + 1, v => BitVec.ofNat 8 v :: leBytes n (v / 256)

/-- The number that bytes carry, least significant byte first (R201). -/
def leNat : List Byte → Nat
  | [] => 0
  | b :: bs => b.toNat + 256 * leNat bs

end Sys2Proof
end

