-- ==== Sys2Proof/Syntax.lean ====
section
/-! DEFINITION. The commands of the part: one constructor of `Instr` for each row of spec/opcode_table.json, in the
table's order. A request carries its port and its parameters at the widths R203 gives them, so a request holds
exactly what a frame of the right length can carry; enumerations are carried as their code byte (R202). -/

namespace Sys2Proof

/-- The three ports (R202 "Port"). -/
inductive Port where
  | console
  | partition
  | fleet
  deriving DecidableEq, Repr

/-- A set of ports (R202 "Set of ports"). -/
structure PortSet where
  console : Bool
  partition : Bool
  fleet : Bool
  deriving DecidableEq, Repr

/-- The codec ports and speakers (R202 "Codec port and speaker"). -/
inductive CodecSide where
  | front
  | rear
  deriving DecidableEq, Repr

/-- The two sides that have a talk key and may hold the floor (R169, R170). -/
inductive TalkSide where
  | driver
  | rear
  deriving DecidableEq, Repr

/-- The two intercom paths, F→R and R→F (R159). -/
inductive AudioPath where
  | frontToRear
  | rearToFront
  deriving DecidableEq, Repr

/-- The seal state, and the level of the seal input (R9). -/
inductive Seal where
  | opened
  | closed
  deriving DecidableEq, Repr

/-- The current-sense inputs of the four lamps at a closure, true where current is present (R155). -/
structure LampSense where
  free : Bool
  hired : Bool
  share : Bool
  off : Bool
  deriving DecidableEq, Repr

/-- The levels of the debounced inputs at a restart: the seal input (R9), and the two talk-key inputs, true where the key
is held (R169). -/
structure InputLevels where
  sealInput : Seal
  driverKey : Bool
  rearKey : Bool
  deriving DecidableEq, Repr

/-- The backup supply of the calendar clock over the time before a restart (R29): it held throughout, and that many
milliseconds passed on the clock while the part did not count them, or it failed, and the clock starts again at that
millisecond of its second (log 9). -/
inductive Backup where
  | held (milliseconds : Nat)
  | failed (phase : Nat)
  deriving DecidableEq, Repr

/-- Where a loss of power falls (R121): between two steps, or inside the completion of the append in flight, after its
first or its second update. -/
inductive PowerCut where
  | betweenSteps
  | afterFirstUpdate
  | afterSecondUpdate
  deriving DecidableEq, Repr

/-- The request kinds of the role table (R200). -/
inductive Kind where
  | readMotion | setStopInterlock | calBegin | calMark | calAbort | calAdopt
  | tariffBegin | tariffItem | tariffCommit | tariffRead | setClock | setHoliday
  | zoneReport | setZoneWatch | tariffStatus
  | startHire | stopHire | resumeHire | addExtra | pinTariff | readParty | listParties
  | setDuty | setOnCall | setSeatLimit
  | payOpen | payTip | pinState | setPinGuard | payResult | cashSettle | readPayment
  | journalRead | journalAck | journalStatus
  | shiftOpen | shiftClose | shiftPreview | setCommission | setOfflineCap | setTipCap | setHoldLimit | readTotalizers
  | setBrightness | lampTest | lampClear | readSign
  | setPathGain | setIntercomMode | setIntercomMute | setTalkOverride | playTone | readIntercom
  | readNotices | clearNotices | setNoticeEnable | readRoutes | setRoute | postMessage | takeMessage
  deriving DecidableEq, Repr

/-- The commands: one constructor for each row of spec/opcode_table.json. -/
inductive Instr where
  | readMotion (p : Port)
  | setStopInterlock (p : Port) (speed : BitVec 16)
  | calBegin (p : Port) (course : BitVec 16)
  | calMark (p : Port)
  | calAbort (p : Port)
  | calAdopt (p : Port) (ceiling : BitVec 16)
  | tariffBegin (p : Port)
  | tariffItem (p : Port) (itemKind number form : Byte) (fields : BitVec 176)
  | tariffCommit (p : Port) (version : BitVec 16)
  | tariffRead (p : Port) (set itemKind number : Byte)
  | setClock (p : Port) (value : BitVec 32)
  | setHoliday (p : Port) (value : Byte)
  | zoneReport (p : Port) (code : BitVec 16) (quality : Byte)
  | setZoneWatch (p : Port) (threshold limit : Byte)
  | tariffStatus (p : Port)
  | startHire (p : Port) (pin : Byte)
  | stopHire (p : Port) (slot : Byte)
  | resumeHire (p : Port) (slot : Byte)
  | addExtra (p : Port) (slot kind : Byte) (amount : BitVec 32)
  | pinTariff (p : Port) (slot tariff : Byte)
  | readParty (p : Port) (slot : Byte)
  | listParties (p : Port)
  | setDuty (p : Port) (value : Byte)
  | setOnCall (p : Port) (value : Byte)
  | setSeatLimit (p : Port) (limit : Byte)
  | payOpen (p : Port) (slot : Byte)
  | payTip (p : Port) (payment : BitVec 16) (hire tip : BitVec 32)
  | pinState (p : Port) (value : Byte)
  | setPinGuard (p : Port) (time : Byte)
  | payResult (p : Port) (payment : BitVec 16) (hire : BitVec 32) (outcome : Byte) (amount reference : BitVec 32)
  | cashSettle (p : Port) (slot : Byte) (amount : BitVec 32)
  | readPayment (p : Port)
  | journalRead (p : Port) (seq : BitVec 32)
  | journalAck (p : Port) (seq : BitVec 32)
  | journalStatus (p : Port)
  | shiftOpen (p : Port) (driver : BitVec 32)
  | shiftClose (p : Port)
  | shiftPreview (p : Port)
  | setCommission (p : Port) (rate : BitVec 16)
  | setOfflineCap (p : Port) (cap : BitVec 32)
  | setTipCap (p : Port) (cap : BitVec 16)
  | setHoldLimit (p : Port) (limit : BitVec 16)
  | readTotalizers (p : Port)
  | setBrightness (p : Port) (day night : Byte)
  | lampTest (p : Port) (free hired share off : Byte)
  | lampClear (p : Port)
  | readSign (p : Port)
  | setPathGain (p : Port) (path : Byte) (gain delay : BitVec 16)
  | setIntercomMode (p : Port) (mode : Byte)
  | setIntercomMute (p : Port) (mute privacy : Byte)
  | setTalkOverride (p : Port) (value : Byte)
  | playTone (p : Port) (tone speaker : Byte)
  | readIntercom (p : Port)
  | readNotices (p : Port) (option : Byte)
  | clearNotices (p : Port) (sources : BitVec 32)
  | setNoticeEnable (p : Port) (sources : BitVec 32)
  | readRoutes (p : Port)
  | setRoute (p : Port) (source ports : Byte)
  | postMessage (p : Port) (target : Byte) (text : List Byte)
  | takeMessage (p : Port)
  | frameDiscarded (p : Port) (received : List Byte)
  | formatReply (p : Port) (received : List Byte)
  | replyRead (p : Port) (clocked : Nat)
  | distancePulse
  | windowClose (sense : LampSense)
  | sealClose
  | sealOpen
  | clockSecond
  | zoneWatchExpiry
  | sessionExpiry
  | pinGuardExpiry
  | testTimerExpiry
  | lampPhaseChange
  | releaseTimerExpiry (path : AudioPath)
  | talkKeyPress (side : TalkSide)
  | talkKeyRelease (side : TalkSide)
  | floorTimerExpiry
  | codecFrame (port : CodecSide) (mic : BitVec 16)
  | toneEnd (port : CodecSide) (mic : BitVec 16)
  | appendWriteStart
  | appendComplete
  | powerLoss (cut : PowerCut)
  | restart (levels : InputLevels) (backup : Backup)
  deriving DecidableEq, Repr

end Sys2Proof
end

