-- ==== Sys2Proof/Decode.lean ====
section
/-! DEFINITION. The decoder. The opcode table gives its rows no bits, so `decodeTableWord` reads no command from a word.
What the spec does give is the request frame of chapter 11: `decodeSelection` reads the bytes of one selection of a port
as the command they are (R195 to R197, R200, R203), and `requestFrame` writes the frame of a request. -/

namespace Sys2Proof

/-- The command a word of the opcode table spells: none, since the table gives no row any bits. -/
def decodeTableWord (_nbits _w : Nat) : Option Instr := none

namespace PortSet

/-- Every port. -/
def every : PortSet := ⟨true, true, true⟩

/-- No port. -/
def empty : PortSet := ⟨false, false, false⟩

/-- The one port `p`. -/
def only : Port → PortSet
  | .console => ⟨true, false, false⟩
  | .partition => ⟨false, true, false⟩
  | .fleet => ⟨false, false, true⟩

/-- Whether the set holds the port. -/
def has (s : PortSet) : Port → Bool
  | .console => s.console
  | .partition => s.partition
  | .fleet => s.fleet

/-- The union of two sets. -/
def union (a b : PortSet) : PortSet :=
  ⟨a.console || b.console, a.partition || b.partition, a.fleet || b.fleet⟩

/-- The ports of `a` that are not in `b`. -/
def diff (a b : PortSet) : PortSet :=
  ⟨a.console && !b.console, a.partition && !b.partition, a.fleet && !b.fleet⟩

end PortSet

/-- The kind byte of each request (R200). -/
def Kind.code : Kind → Nat
  | .readMotion => 1
  | .setStopInterlock => 2
  | .calBegin => 3
  | .calMark => 4
  | .calAbort => 5
  | .calAdopt => 6
  | .tariffBegin => 7
  | .tariffItem => 8
  | .tariffCommit => 9
  | .tariffRead => 10
  | .setClock => 11
  | .setHoliday => 12
  | .zoneReport => 13
  | .setZoneWatch => 14
  | .tariffStatus => 15
  | .startHire => 16
  | .stopHire => 17
  | .resumeHire => 18
  | .addExtra => 19
  | .pinTariff => 20
  | .readParty => 21
  | .listParties => 22
  | .setDuty => 23
  | .setOnCall => 24
  | .setSeatLimit => 25
  | .payOpen => 26
  | .payTip => 27
  | .pinState => 28
  | .setPinGuard => 29
  | .payResult => 30
  | .cashSettle => 31
  | .readPayment => 32
  | .journalRead => 33
  | .journalAck => 34
  | .journalStatus => 35
  | .shiftOpen => 36
  | .shiftClose => 37
  | .shiftPreview => 38
  | .setCommission => 39
  | .setOfflineCap => 40
  | .setTipCap => 41
  | .setHoldLimit => 42
  | .readTotalizers => 43
  | .setBrightness => 44
  | .lampTest => 45
  | .lampClear => 46
  | .readSign => 47
  | .setPathGain => 48
  | .setIntercomMode => 49
  | .setIntercomMute => 50
  | .setTalkOverride => 51
  | .playTone => 52
  | .readIntercom => 53
  | .readNotices => 54
  | .clearNotices => 55
  | .setNoticeEnable => 56
  | .readRoutes => 57
  | .setRoute => 58
  | .postMessage => 59
  | .takeMessage => 60

/-- The request kinds in the order of their codes (R200). -/
def Kind.all : List Kind :=
  [.readMotion, .setStopInterlock, .calBegin, .calMark, .calAbort, .calAdopt, .tariffBegin, .tariffItem,
   .tariffCommit, .tariffRead, .setClock, .setHoliday, .zoneReport, .setZoneWatch, .tariffStatus, .startHire,
   .stopHire, .resumeHire, .addExtra, .pinTariff, .readParty, .listParties, .setDuty, .setOnCall,
   .setSeatLimit, .payOpen, .payTip, .pinState, .setPinGuard, .payResult, .cashSettle, .readPayment,
   .journalRead, .journalAck, .journalStatus, .shiftOpen, .shiftClose, .shiftPreview, .setCommission,
   .setOfflineCap, .setTipCap, .setHoldLimit, .readTotalizers, .setBrightness, .lampTest, .lampClear,
   .readSign, .setPathGain, .setIntercomMode, .setIntercomMute, .setTalkOverride, .playTone, .readIntercom,
   .readNotices, .clearNotices, .setNoticeEnable, .readRoutes, .setRoute, .postMessage, .takeMessage]

/-- The request of a kind byte, if there is one (R197, check 2). -/
def Kind.ofCode (code : Nat) : Option Kind := Kind.all.find? (fun k => k.code == code)

/-- The ports that may make each request (R200). -/
def Kind.ports : Kind → PortSet
  | .readMotion => PortSet.every
  | .setStopInterlock => PortSet.only .fleet
  | .calBegin => PortSet.only .console
  | .calMark => PortSet.only .console
  | .calAbort => PortSet.only .console
  | .calAdopt => PortSet.only .console
  | .tariffBegin => PortSet.only .fleet
  | .tariffItem => PortSet.only .fleet
  | .tariffCommit => PortSet.only .fleet
  | .tariffRead => PortSet.every
  | .setClock => PortSet.only .fleet
  | .setHoliday => PortSet.only .fleet
  | .zoneReport => PortSet.only .fleet
  | .setZoneWatch => PortSet.only .fleet
  | .tariffStatus => PortSet.every
  | .startHire => PortSet.only .console
  | .stopHire => PortSet.only .console
  | .resumeHire => PortSet.only .console
  | .addExtra => ⟨true, false, true⟩
  | .pinTariff => PortSet.only .console
  | .readParty => PortSet.every
  | .listParties => PortSet.every
  | .setDuty => PortSet.only .console
  | .setOnCall => PortSet.only .fleet
  | .setSeatLimit => PortSet.only .console
  | .payOpen => PortSet.only .partition
  | .payTip => PortSet.only .partition
  | .pinState => PortSet.only .partition
  | .setPinGuard => PortSet.only .console
  | .payResult => PortSet.only .partition
  | .cashSettle => PortSet.only .console
  | .readPayment => PortSet.every
  | .journalRead => PortSet.every
  | .journalAck => PortSet.only .fleet
  | .journalStatus => PortSet.every
  | .shiftOpen => PortSet.only .console
  | .shiftClose => PortSet.only .console
  | .shiftPreview => ⟨true, false, true⟩
  | .setCommission => PortSet.only .fleet
  | .setOfflineCap => PortSet.only .fleet
  | .setTipCap => PortSet.only .fleet
  | .setHoldLimit => PortSet.only .fleet
  | .readTotalizers => PortSet.every
  | .setBrightness => PortSet.only .console
  | .lampTest => PortSet.only .console
  | .lampClear => PortSet.only .console
  | .readSign => PortSet.every
  | .setPathGain => PortSet.only .console
  | .setIntercomMode => PortSet.only .console
  | .setIntercomMute => PortSet.only .console
  | .setTalkOverride => PortSet.only .console
  | .playTone => PortSet.only .console
  | .readIntercom => PortSet.every
  | .readNotices => PortSet.every
  | .clearNotices => PortSet.every
  | .setNoticeEnable => PortSet.every
  | .readRoutes => PortSet.every
  | .setRoute => PortSet.only .fleet
  | .postMessage => PortSet.every
  | .takeMessage => PortSet.every

/-- A number of 16 bits from its two bytes (R201). -/
def word16 (a b : Byte) : BitVec 16 := BitVec.ofNat 16 (leNat [a, b])

/-- A number of 32 bits from its four bytes (R201). -/
def word32 (a b c d : Byte) : BitVec 32 := BitVec.ofNat 32 (leNat [a, b, c, d])

/-- The 22 field bytes of a TARIFF_ITEM as one number, the first byte lowest (R203). -/
def fieldWord (bytes : List Byte) : BitVec 176 := BitVec.ofNat 176 (leNat bytes)

/-- The request that a parameter block spells, or none where its length is not the one R203 gives the kind. -/
def parseRequest (k : Kind) (p : Port) (params : List Byte) : Option Instr :=
  match k with
  | .readMotion =>
    match params with
    | [] => some (.readMotion p)
    | _ => none
  | .setStopInterlock =>
    match params with
    | [a, b] => some (.setStopInterlock p (word16 a b))
    | _ => none
  | .calBegin =>
    match params with
    | [a, b] => some (.calBegin p (word16 a b))
    | _ => none
  | .calMark =>
    match params with
    | [] => some (.calMark p)
    | _ => none
  | .calAbort =>
    match params with
    | [] => some (.calAbort p)
    | _ => none
  | .calAdopt =>
    match params with
    | [a, b] => some (.calAdopt p (word16 a b))
    | _ => none
  | .tariffBegin =>
    match params with
    | [] => some (.tariffBegin p)
    | _ => none
  | .tariffItem =>
    match params with
    | k :: n :: f :: fields => if fields.length = 22 then some (.tariffItem p k n f (fieldWord fields)) else none
    | _ => none
  | .tariffCommit =>
    match params with
    | [a, b] => some (.tariffCommit p (word16 a b))
    | _ => none
  | .tariffRead =>
    match params with
    | [a, b, c] => some (.tariffRead p a b c)
    | _ => none
  | .setClock =>
    match params with
    | [a, b, c, d] => some (.setClock p (word32 a b c d))
    | _ => none
  | .setHoliday =>
    match params with
    | [a] => some (.setHoliday p a)
    | _ => none
  | .zoneReport =>
    match params with
    | [a, b, c] => some (.zoneReport p (word16 a b) c)
    | _ => none
  | .setZoneWatch =>
    match params with
    | [a, b] => some (.setZoneWatch p a b)
    | _ => none
  | .tariffStatus =>
    match params with
    | [] => some (.tariffStatus p)
    | _ => none
  | .startHire =>
    match params with
    | [a] => some (.startHire p a)
    | _ => none
  | .stopHire =>
    match params with
    | [a] => some (.stopHire p a)
    | _ => none
  | .resumeHire =>
    match params with
    | [a] => some (.resumeHire p a)
    | _ => none
  | .addExtra =>
    match params with
    | [a, b, c, d, e, f] => some (.addExtra p a b (word32 c d e f))
    | _ => none
  | .pinTariff =>
    match params with
    | [a, b] => some (.pinTariff p a b)
    | _ => none
  | .readParty =>
    match params with
    | [a] => some (.readParty p a)
    | _ => none
  | .listParties =>
    match params with
    | [] => some (.listParties p)
    | _ => none
  | .setDuty =>
    match params with
    | [a] => some (.setDuty p a)
    | _ => none
  | .setOnCall =>
    match params with
    | [a] => some (.setOnCall p a)
    | _ => none
  | .setSeatLimit =>
    match params with
    | [a] => some (.setSeatLimit p a)
    | _ => none
  | .payOpen =>
    match params with
    | [a] => some (.payOpen p a)
    | _ => none
  | .payTip =>
    match params with
    | [a, b, c, d, e, f, g, h, i, j] => some (.payTip p (word16 a b) (word32 c d e f) (word32 g h i j))
    | _ => none
  | .pinState =>
    match params with
    | [a] => some (.pinState p a)
    | _ => none
  | .setPinGuard =>
    match params with
    | [a] => some (.setPinGuard p a)
    | _ => none
  | .payResult =>
    match params with
    | [a, b, c, d, e, f, g, h, i, j, k, l, m, n, o] => some (.payResult p (word16 a b) (word32 c d e f) g (word32 h i j k) (word32 l m n o))
    | _ => none
  | .cashSettle =>
    match params with
    | [a, b, c, d, e] => some (.cashSettle p a (word32 b c d e))
    | _ => none
  | .readPayment =>
    match params with
    | [] => some (.readPayment p)
    | _ => none
  | .journalRead =>
    match params with
    | [a, b, c, d] => some (.journalRead p (word32 a b c d))
    | _ => none
  | .journalAck =>
    match params with
    | [a, b, c, d] => some (.journalAck p (word32 a b c d))
    | _ => none
  | .journalStatus =>
    match params with
    | [] => some (.journalStatus p)
    | _ => none
  | .shiftOpen =>
    match params with
    | [a, b, c, d] => some (.shiftOpen p (word32 a b c d))
    | _ => none
  | .shiftClose =>
    match params with
    | [] => some (.shiftClose p)
    | _ => none
  | .shiftPreview =>
    match params with
    | [] => some (.shiftPreview p)
    | _ => none
  | .setCommission =>
    match params with
    | [a, b] => some (.setCommission p (word16 a b))
    | _ => none
  | .setOfflineCap =>
    match params with
    | [a, b, c, d] => some (.setOfflineCap p (word32 a b c d))
    | _ => none
  | .setTipCap =>
    match params with
    | [a, b] => some (.setTipCap p (word16 a b))
    | _ => none
  | .setHoldLimit =>
    match params with
    | [a, b] => some (.setHoldLimit p (word16 a b))
    | _ => none
  | .readTotalizers =>
    match params with
    | [] => some (.readTotalizers p)
    | _ => none
  | .setBrightness =>
    match params with
    | [a, b] => some (.setBrightness p a b)
    | _ => none
  | .lampTest =>
    match params with
    | [a, b, c, d] => some (.lampTest p a b c d)
    | _ => none
  | .lampClear =>
    match params with
    | [] => some (.lampClear p)
    | _ => none
  | .readSign =>
    match params with
    | [] => some (.readSign p)
    | _ => none
  | .setPathGain =>
    match params with
    | [a, b, c, d, e] => some (.setPathGain p a (word16 b c) (word16 d e))
    | _ => none
  | .setIntercomMode =>
    match params with
    | [a] => some (.setIntercomMode p a)
    | _ => none
  | .setIntercomMute =>
    match params with
    | [a, b] => some (.setIntercomMute p a b)
    | _ => none
  | .setTalkOverride =>
    match params with
    | [a] => some (.setTalkOverride p a)
    | _ => none
  | .playTone =>
    match params with
    | [a, b] => some (.playTone p a b)
    | _ => none
  | .readIntercom =>
    match params with
    | [] => some (.readIntercom p)
    | _ => none
  | .readNotices =>
    match params with
    | [a] => some (.readNotices p a)
    | _ => none
  | .clearNotices =>
    match params with
    | [a, b, c, d] => some (.clearNotices p (word32 a b c d))
    | _ => none
  | .setNoticeEnable =>
    match params with
    | [a, b, c, d] => some (.setNoticeEnable p (word32 a b c d))
    | _ => none
  | .readRoutes =>
    match params with
    | [] => some (.readRoutes p)
    | _ => none
  | .setRoute =>
    match params with
    | [a, b] => some (.setRoute p a b)
    | _ => none
  | .postMessage =>
    match params with
    | t :: text => if text.length ≤ 59 then some (.postMessage p t text) else none
    | _ => none
  | .takeMessage =>
    match params with
    | [] => some (.takeMessage p)
    | _ => none

/-- How the bytes of a selection are judged at its end (R195, R196). -/
inductive Judgement where
  | nothing
  | replyRead (clocked : Nat)
  | partialFrame
  | complete (kind : Byte) (params : List Byte)
  | malformed (kind : Byte)
  deriving DecidableEq, Repr

/-- R195 and R196: a selection without a whole byte carries nothing, a first byte of 0 makes it a reply read, and a
request write is judged by its parameter length and the bytes received. -/
def judgeSelection : List Byte → Judgement
  | [] => .nothing
  | [kind] => if kind = 0 then .replyRead 0 else .partialFrame
  | kind :: len :: rest =>
    if kind = 0 then .replyRead (rest.length + 1)
    else if 60 < len.toNat then .malformed kind
    else if rest.length < len.toNat then .partialFrame
    else if rest.length = len.toNat then .complete kind rest
    else .malformed kind

/-- Whether the received bytes are a frame answered FORMAT (R197, checks 1 to 3). -/
def answeredFormat (p : Port) (received : List Byte) : Bool :=
  match judgeSelection received with
  | .malformed _ => true
  | .complete kind params =>
    match Kind.ofCode kind.toNat with
    | none => true
    | some k => (parseRequest k p params).isNone
  | _ => false

/-- The command that one selection of a port is (R195 to R197): a reply read, a discarded partial frame, a frame
answered FORMAT, or the request the frame spells. -/
def decodeSelection (p : Port) (received : List Byte) : Option Instr :=
  match judgeSelection received with
  | .nothing => none
  | .replyRead n => some (.replyRead p n)
  | .partialFrame => some (.frameDiscarded p received)
  | .malformed _ => some (.formatReply p received)
  | .complete kind params =>
    match Kind.ofCode kind.toNat with
    | none => some (.formatReply p received)
    | some k =>
      match parseRequest k p params with
      | none => some (.formatReply p received)
      | some i => some i

/-- The port, kind and parameter bytes of a request, and none for a command that is no request (R203). -/
def Instr.request? : Instr → Option (Port × Kind × List Byte)
  | .readMotion p => some (p, .readMotion, [])
  | .setStopInterlock p a => some (p, .setStopInterlock, leBytes 2 a.toNat)
  | .calBegin p a => some (p, .calBegin, leBytes 2 a.toNat)
  | .calMark p => some (p, .calMark, [])
  | .calAbort p => some (p, .calAbort, [])
  | .calAdopt p a => some (p, .calAdopt, leBytes 2 a.toNat)
  | .tariffBegin p => some (p, .tariffBegin, [])
  | .tariffItem p k n f fields => some (p, .tariffItem, k :: n :: f :: leBytes 22 fields.toNat)
  | .tariffCommit p a => some (p, .tariffCommit, leBytes 2 a.toNat)
  | .tariffRead p a b c => some (p, .tariffRead, [a, b, c])
  | .setClock p a => some (p, .setClock, leBytes 4 a.toNat)
  | .setHoliday p a => some (p, .setHoliday, [a])
  | .zoneReport p a b => some (p, .zoneReport, leBytes 2 a.toNat ++ [b])
  | .setZoneWatch p a b => some (p, .setZoneWatch, [a, b])
  | .tariffStatus p => some (p, .tariffStatus, [])
  | .startHire p a => some (p, .startHire, [a])
  | .stopHire p a => some (p, .stopHire, [a])
  | .resumeHire p a => some (p, .resumeHire, [a])
  | .addExtra p a b c => some (p, .addExtra, [a, b] ++ leBytes 4 c.toNat)
  | .pinTariff p a b => some (p, .pinTariff, [a, b])
  | .readParty p a => some (p, .readParty, [a])
  | .listParties p => some (p, .listParties, [])
  | .setDuty p a => some (p, .setDuty, [a])
  | .setOnCall p a => some (p, .setOnCall, [a])
  | .setSeatLimit p a => some (p, .setSeatLimit, [a])
  | .payOpen p a => some (p, .payOpen, [a])
  | .payTip p a b c => some (p, .payTip, leBytes 2 a.toNat ++ leBytes 4 b.toNat ++ leBytes 4 c.toNat)
  | .pinState p a => some (p, .pinState, [a])
  | .setPinGuard p a => some (p, .setPinGuard, [a])
  | .payResult p a b c d e => some (p, .payResult, leBytes 2 a.toNat ++ leBytes 4 b.toNat ++ [c] ++ leBytes 4 d.toNat ++ leBytes 4 e.toNat)
  | .cashSettle p a b => some (p, .cashSettle, [a] ++ leBytes 4 b.toNat)
  | .readPayment p => some (p, .readPayment, [])
  | .journalRead p a => some (p, .journalRead, leBytes 4 a.toNat)
  | .journalAck p a => some (p, .journalAck, leBytes 4 a.toNat)
  | .journalStatus p => some (p, .journalStatus, [])
  | .shiftOpen p a => some (p, .shiftOpen, leBytes 4 a.toNat)
  | .shiftClose p => some (p, .shiftClose, [])
  | .shiftPreview p => some (p, .shiftPreview, [])
  | .setCommission p a => some (p, .setCommission, leBytes 2 a.toNat)
  | .setOfflineCap p a => some (p, .setOfflineCap, leBytes 4 a.toNat)
  | .setTipCap p a => some (p, .setTipCap, leBytes 2 a.toNat)
  | .setHoldLimit p a => some (p, .setHoldLimit, leBytes 2 a.toNat)
  | .readTotalizers p => some (p, .readTotalizers, [])
  | .setBrightness p a b => some (p, .setBrightness, [a, b])
  | .lampTest p a b c d => some (p, .lampTest, [a, b, c, d])
  | .lampClear p => some (p, .lampClear, [])
  | .readSign p => some (p, .readSign, [])
  | .setPathGain p a b c => some (p, .setPathGain, [a] ++ leBytes 2 b.toNat ++ leBytes 2 c.toNat)
  | .setIntercomMode p a => some (p, .setIntercomMode, [a])
  | .setIntercomMute p a b => some (p, .setIntercomMute, [a, b])
  | .setTalkOverride p a => some (p, .setTalkOverride, [a])
  | .playTone p a b => some (p, .playTone, [a, b])
  | .readIntercom p => some (p, .readIntercom, [])
  | .readNotices p a => some (p, .readNotices, [a])
  | .clearNotices p a => some (p, .clearNotices, leBytes 4 a.toNat)
  | .setNoticeEnable p a => some (p, .setNoticeEnable, leBytes 4 a.toNat)
  | .readRoutes p => some (p, .readRoutes, [])
  | .setRoute p a b => some (p, .setRoute, [a, b])
  | .postMessage p t text => some (p, .postMessage, t :: text)
  | .takeMessage p => some (p, .takeMessage, [])
  | _ => none

/-- The request frame of a request: kind, parameter length, parameters (R201). -/
def requestFrame (i : Instr) : Option (List Byte) :=
  i.request?.map (fun r => BitVec.ofNat 8 r.2.1.code :: BitVec.ofNat 8 r.2.2.length :: r.2.2)

end Sys2Proof
end

