-- ==== Sys2Proof/Config.lean ====
section
/-! DEFINITION. The capacities the part is built with, and the one value the manual leaves open. -/

namespace Sys2Proof.Config

/-- Stored entries of the journal (R109). -/
abbrev journalCapacity : Nat := 256

/-- The count of stored and queued entries from which JOURNAL_NEAR_FULL holds (R119). -/
abbrev nearFull : Nat := 224

/-- Places of the append queue (R113). -/
abbrev appendPlaces : Nat := 4

/-- Items of a party's extras list (R52). -/
abbrev extrasPlaces : Nat := 8

/-- Items of the recent-session list (R87). -/
abbrev recentPlaces : Nat := 4

/-- Waiting tones of one speaker (R177). -/
abbrev tonePlaces : Nat := 4

/-- Messages of one port's queue (R192). -/
abbrev messagePlaces : Nat := 4

/-- Milliseconds of a measurement window (R2). -/
abbrev windowMs : Nat := 100

/-- Milliseconds of the lamp test (R151). -/
abbrev lampTestMs : Nat := 10000

/-- Milliseconds the floor is held at most (R170). -/
abbrev floorMs : Nat := 60000

/-- Milliseconds for which a new level of the seal input is stable before it is taken (R9). -/
abbrev sealDebounceMs : Nat := 50

/-- Milliseconds for which a new level of a talk-key input is stable before it is taken (R169). -/
abbrev keyDebounceMs : Nat := 30

/-- FREE VALUE (log 16): what the 4-byte metre field of a party record or a TRIP entry carries for a distance of
`metres` that 4 bytes cannot hold. R58 allows such a distance and R201 gives the field 4 bytes; the manual states no
value for it. It has no body, so nothing can be proved of it. -/
opaque oversizeMetres (metres : Nat) : BitVec 32

end Sys2Proof.Config
end

