-- ==== Sys2Proof/Machine/State.lean ====
section
/-! DEFINITION. The state of the part: every piece of state the spec's chapters own, one structure for each block
(00 "Block overview"), the model's own fields, and the state right after reset. Numbers are naturals; the ranges the spec
gives them stand in the field comments. -/

namespace Sys2Proof.Machine

/-- A clock value with its clock-invalid flag (00 "Time", R61). -/
structure Stamp where
  clock : Nat
  invalid : Bool
  deriving DecidableEq, Repr

/-- A debounced input (R9, R169): its level, and for how many milliseconds it has been without interruption at a level
other than the debounced one. `coming` is the MODEL's own: the levels of the input over the milliseconds to come, which
the outside gives; where it gives none the level stays (log 24). -/
structure Pin (α : Type) where
  level : α
  stable : Nat
  coming : List α
  deriving DecidableEq, Repr

/-! ## Measurement unit (chapter 1) -/

/-- The window result of the last closure (R3 to R6). Its window speed is also v_prev of R5. -/
structure WindowResult where
  charged : Nat
  excess : Nat
  windowSpeed : Nat
  smoothed : Nat
  deriving DecidableEq, Repr

/-- The calibration record (R8): K, pulse ceiling, calibration count, stop interlock speed. -/
structure Calibration where
  k : Nat
  ceiling : Nat
  count : Nat
  interlock : Nat
  deriving DecidableEq, Repr

/-- The calibration run with the fields each of its states has (R10). -/
inductive CalRun where
  | idle
  | ready (course : Nat)
  | counting (course count : Nat)
  | done (course count computed : Nat)
  | failed (course count computed : Nat)
  | adopting (course count computed : Nat) (ceiling : Option Nat)
  deriving DecidableEq, Repr

/-- The measurement unit. -/
structure Measurement where
  /-- raw count r of the open window, 0 to 65,535 (R1) -/
  raw : Nat
  /-- closure number, 32 bits (R2) -/
  closure : Nat
  last : WindowResult
  cal : Calibration
  sealState : Seal
  /-- debounced level of the seal input; a closing held back under R9 is `closed` here while `sealState` is open -/
  sealInput : Seal
  /-- the seal input itself, debounced for 50 ms (R9) -/
  sealPin : Pin Seal
  run : CalRun
  deriving DecidableEq, Repr

/-! ## Tariff store (chapter 2) -/

/-- A tariff number 1 to 8, held as the number less 1. -/
abbrev TariffNo := Fin 8

/-- An extra kind number 1 to 8, held as the number less 1. -/
abbrev KindNo := Fin 8

/-- The charging mode of a tariff (R18). -/
inductive TariffMode where
  | single
  | double
  deriving DecidableEq, Repr

/-- A present tariff record (R18). -/
structure Tariff where
  flagFall : Nat
  prepaid : Nat
  stepAmount : Nat
  /-- Ld, metres -/
  distanceStep : Nat
  /-- Lt, seconds -/
  timeStep : Nat
  mode : TariffMode
  f1 : Nat
  f2 : Nat
  f3 : Nat
  f4 : Nat
  deriving DecidableEq, Repr

/-- The class of an extra (R19). -/
inductive ExtraClass where
  | surcharge
  | passThrough
  deriving DecidableEq, Repr

/-- A present extra kind (R19); an amount of 0 marks the kind as variable. -/
structure ExtraKind where
  cls : ExtraClass
  amount : Nat
  permitted : PortSet
  deriving DecidableEq, Repr

/-- A zone rule (R20); `none` for a tariff is the default tariff of the current period. -/
structure ZoneRule where
  value : BitVec 16
  mask : BitVec 16
  day : Option TariffNo
  night : Option TariffNo
  holiday : Option TariffNo
  entryExtra : Option KindNo
  deriving DecidableEq, Repr

/-- The items of a tariff set (R18 to R21), without its version. -/
structure TariffSet where
  tariffs : Vector (Option Tariff) 8
  extraKinds : Vector (Option ExtraKind) 8
  zoneRules : Vector (Option ZoneRule) 16
  defaultDay : TariffNo
  defaultNight : TariffNo
  defaultHoliday : TariffNo
  /-- minute of the day, 0 to 1,439 -/
  nightStart : Nat
  nightEnd : Nat
  deriving DecidableEq, Repr

/-- The stage state, with the version of a committed staged set (R22, R25). -/
inductive Stage where
  | idle
  | loading
  | armed (version : BitVec 16)
  | activating (version : BitVec 16)
  deriving DecidableEq, Repr

/-- The zone state (R33). -/
structure Zone where
  known : Bool
  lastCode : Option (BitVec 16)
  uncertain : Nat
  /-- time left of the watch timer in ms; `none` when stopped -/
  watch : Option Nat
  threshold : Nat
  /-- zone watch limit, units of 250 ms -/
  limit : Nat
  deriving DecidableEq, Repr

/-- The tariff store. -/
structure TariffStore where
  activeVersion : BitVec 16
  active : TariffSet
  staged : TariffSet
  stage : Stage
  /-- calendar clock, 32 bits (R29) -/
  clock : Nat
  /-- whether the clock is INVALID -/
  clockInvalid : Bool
  holiday : Bool
  zone : Zone
  deriving DecidableEq, Repr

/-! ## Party table (chapters 3 to 5) -/

/-- An item of an extras list (R40). -/
structure Extra where
  kind : KindNo
  cls : ExtraClass
  amount : Nat
  deriving DecidableEq, Repr

/-- A tender, with the fields its method has (R83). -/
inductive Tender where
  | cash (applied : Nat)
  | cardOnline (applied payment reference excess : Nat)
  | cardOffline (applied payment reference excess : Nat) (overAllowance : Bool)
  deriving DecidableEq, Repr

/-- The state of a non-vacant slot (R60). -/
inductive PartyState where
  | running
  | stopped
  | paying
  | closing
  deriving DecidableEq, Repr

/-- A party record (R40, R61). -/
structure Party where
  state : PartyState
  hire : Nat
  startTime : Stamp
  stopTime : Option Stamp
  zoneAtStart : Option (BitVec 16)
  current : TariffNo
  first : TariffNo
  /-- pinned flag and pinned tariff -/
  pin : Option TariffNo
  joining : Bool
  /-- progress G -/
  progress : Nat
  prepaid : Nat
  steps : Nat
  fare : Nat
  /-- pulse total -/
  pulses : Nat
  /-- charged-window count -/
  windows : Nat
  mostConcurrent : Nat
  switches : Nat
  extras : List Extra
  /-- charged-rule set: bit n - 1 for rule n -/
  chargedRules : BitVec 16
  tip : Nat
  tenders : List Tender
  saturated : Bool
  extraDropped : Bool
  powerInterrupted : Bool
  lateApproval : Bool
  excessCharged : Bool
  counted : Bool
  payment : Option Nat
  deriving DecidableEq, Repr

/-- The party table; `none` is a VACANT slot (R60, R81). -/
structure PartyTable where
  slots : Vector (Option Party) 4
  seatLimit : Nat
  /-- next hire number; `none` when exhausted (R64) -/
  nextHire : Option Nat
  offDuty : Bool
  onCall : Bool
  deriving DecidableEq, Repr

/-! ## Payment unit (chapter 5) -/

/-- An OPEN payment session (R85). -/
structure Session where
  slot : Fin 4
  hire : Nat
  payment : Nat
  requested : Nat
  allowance : Nat
  /-- time to the expiry deadline, ms -/
  timeLeft : Nat
  /-- whether the PIN state is ENTRY -/
  pinEntry : Bool
  deriving DecidableEq, Repr

/-- The close cause of a recent session (R87). -/
inductive CloseCause where
  | result
  | expired
  deriving DecidableEq, Repr

/-- An item of the recent-session list (R87). -/
structure RecentSession where
  payment : Nat
  slot : Fin 4
  hire : Nat
  cause : CloseCause
  deriving DecidableEq, Repr

/-- The payment unit. -/
structure Payment where
  session : Option Session
  recent : List RecentSession
  /-- payment-number counter -/
  counter : Nat
  /-- time left of the PIN guard timer in ms; `none` when stopped -/
  guardTimer : Option Nat
  /-- PIN guard time, units of 0.1 s -/
  guardTime : Nat
  deriving DecidableEq, Repr

/-! ## Shift unit (chapter 7) -/

/-- The state of the shift (R128). -/
inductive ShiftState where
  | closed
  | opened
  | closing
  deriving DecidableEq, Repr

/-- The twenty shift counters (R129), in the order of its table. -/
structure Counters where
  trips : Nat
  shared : Nat
  hiredPulses : Nat
  totalPulses : Nat
  fareTotal : Nat
  surcharges : Nat
  passThroughs : Nat
  tips : Nat
  cash : Nat
  cardOnline : Nat
  cardOffline : Nat
  overAllowance : Nat
  declines : Nat
  aborts : Nat
  expiries : Nat
  orphans : Nat
  overruns : Nat
  excessPulses : Nat
  lampFaults : Nat
  powerInterruptions : Nat
  deriving DecidableEq, Repr

/-- The lifetime totalizers and their remainders (R142). -/
structure Totals where
  distance : Nat
  hiredDistance : Nat
  trips : Nat
  fares : Nat
  totalRemainder : Nat
  hiredRemainder : Nat
  deriving DecidableEq, Repr

/-- The shift unit: the shift record (R128), its counters (R129), the fleet settings (R140), the totalizers (R142). -/
structure Shift where
  state : ShiftState
  /-- shift number; `none` when exhausted (R135) -/
  number : Option Nat
  driver : Option Nat
  openTime : Option Stamp
  closeTime : Option Stamp
  closingRate : Option Nat
  /-- the K of the closing report, part of the "report data of the last closed shift" (R128, log 17) -/
  closingK : Option Nat
  counters : Counters
  limitReached : Bool
  commission : Nat
  offlineCap : Nat
  tipCap : Nat
  /-- hold limit, seconds -/
  holdLimit : Nat
  totals : Totals
  deriving DecidableEq, Repr

/-- A shift report (R138); the figures of R139 are computed from it. -/
structure ShiftReport where
  number : Nat
  driver : Nat
  openTime : Stamp
  closeTime : Option Stamp
  counters : Counters
  limitReached : Bool
  k : Nat
  rate : Nat
  deriving DecidableEq, Repr

/-! ## Record store (chapter 6) -/

/-- The body of a TRIP entry (R111). -/
structure TripEntry where
  hire : Nat
  slot : Fin 4
  startTime : Nat
  stopTime : Nat
  clockInvalid : Bool
  zoneAtStart : Option (BitVec 16)
  first : TariffNo
  last : TariffNo
  switches : Nat
  distance : Nat
  chargedTime : Nat
  steps : Nat
  fare : Nat
  extras : List Extra
  tip : Nat
  tenders : List Tender
  mostConcurrent : Nat
  saturated : Bool
  extraDropped : Bool
  powerInterrupted : Bool
  lateApproval : Bool
  excessCharged : Bool
  deriving DecidableEq, Repr

/-- The body of an ORPHAN_APPROVAL entry (R97), with the time at which it was queued. -/
structure OrphanEntry where
  payment : Nat
  hire : Option Nat
  /-- whether the outcome was APPROVED_OFFLINE -/
  offline : Bool
  amount : Nat
  reference : Nat
  time : Stamp
  deriving DecidableEq, Repr

/-- The body of an entry of the journal (R110 to R112). -/
inductive EntryBody where
  | trip (e : TripEntry)
  | shift (r : ShiftReport)
  | orphan (o : OrphanEntry)
  | calibration (oldK newK oldCeiling newCeiling newCount : Nat)
  | tariff (oldVersion newVersion : BitVec 16)
  deriving DecidableEq, Repr

/-- A stored entry (R109, R110). -/
structure Entry where
  seq : Nat
  time : Stamp
  body : EntryBody
  deriving DecidableEq, Repr

/-- The record store. -/
structure RecordStore where
  /-- stored entries, oldest first, at most 256 -/
  stored : List Entry
  nextSeq : Nat
  /-- the append queue's places, oldest first, at most 4 -/
  places : List EntryBody
  /-- waiting entries, oldest first, at most 4 -/
  waiting : List EntryBody
  /-- whether the write of the first place is in flight -/
  inFlight : Bool
  deriving DecidableEq, Repr

/-! ## Sign unit (chapter 8) -/

/-- The sign state (R146). -/
inductive SignState where
  | dark
  | offDuty
  | free
  | onCall
  | shareOpen
  | hired
  | arrived
  deriving DecidableEq, Repr

/-- The period (R32). -/
inductive Period where
  | day
  | night
  | holiday
  deriving DecidableEq, Repr

/-- A lamp channel's override (R152). -/
inductive Override where
  | normal
  | on
  | off
  deriving DecidableEq, Repr

/-- A modulation period of a lamp channel: the slot of its 256 at which the channel stands, and the on-slot count the
period began with (R149, R150). -/
structure Modulation where
  slot : Nat
  width : Nat
  deriving DecidableEq, Repr

/-- One lamp channel: its override, dark-sample count and fault latch. -/
structure Lamp where
  override : Override
  dark : Nat
  latch : Bool
  /-- the modulation period that runs in the on phase; `none` in the off phase (R149) -/
  period : Option Modulation
  deriving DecidableEq, Repr

/-- The sign unit; the channels stand in the order FREE, HIRED, SHARE, OFF (R202). -/
structure Sign where
  state : SignState
  /-- phase timer, 0 to 999 ms -/
  phase : Nat
  period : Period
  level : Nat
  dayLevel : Nat
  nightLevel : Nat
  lamps : Vector Lamp 4
  /-- time left of the test timer in ms; `none` when stopped -/
  test : Option Nat
  /-- MODEL's own: the levels of the four current-sense inputs at the last closure (log 2) -/
  sense : LampSense
  deriving DecidableEq, Repr

/-! ## Intercom unit (chapter 9) -/

/-- A codec port's rate monitor (R160). -/
structure Codec where
  frames : Nat
  lastFrames : Nat
  fault : Bool
  badRun : Nat
  goodRun : Nat
  deriving DecidableEq, Repr

/-- A gate, with its release timer's time left in ms while RELEASING (R165). -/
inductive Gate where
  | muted
  | releasing (left : Nat)
  | passing
  deriving DecidableEq, Repr

/-- One path: gain, release delay in ms, gate, held source sample (R159, R162, R165). -/
structure AudioLine where
  gain : Nat
  release : Nat
  gate : Gate
  held : Option Int
  deriving DecidableEq, Repr

/-- The intercom mode (R167). -/
inductive IntercomMode where
  | fullDuplex
  | halfDuplex
  | closed
  deriving DecidableEq, Repr

/-- The tones (R176). -/
inductive Tone where
  | call
  | start
  | approved
  | declined
  | expired
  deriving DecidableEq, Repr

/-- The tone playing on a speaker and how many of its frames were given (R178). -/
structure Playing where
  tone : Tone
  given : Nat
  deriving DecidableEq, Repr

/-- A speaker's tone queue, its drop counter, and the speaker sample last given on its port (R166, R177). -/
structure Speaker where
  playing : Option Playing
  waiting : List Tone
  drops : Nat
  output : Int
  deriving DecidableEq, Repr

/-- One value for each codec port. -/
structure PerCodec (α : Type) where
  front : α
  rear : α
  deriving DecidableEq, Repr

/-- One value for each path. -/
structure PerPath (α : Type) where
  frontToRear : α
  rearToFront : α
  deriving DecidableEq, Repr

/-- One value for each talk key. -/
structure PerKey (α : Type) where
  driver : α
  rear : α
  deriving DecidableEq, Repr

/-- The intercom unit. -/
structure Intercom where
  codecs : PerCodec Codec
  paths : PerPath AudioLine
  mode : IntercomMode
  driverMute : Bool
  privacy : Bool
  /-- whether the driver override is ON -/
  override : Bool
  /-- debounced keys, true while pressed -/
  keys : PerKey Bool
  /-- the talk-key inputs themselves, true while the key is held, debounced for 30 ms (R169) -/
  keyPins : PerKey (Pin Bool)
  /-- talk floor; `none` is NONE -/
  floor : Option TalkSide
  claimant : Option TalkSide
  /-- time left of the floor timer in ms; `none` when stopped -/
  floorTimer : Option Nat
  speakers : PerCodec Speaker
  deriving DecidableEq, Repr

/-! ## Notice unit and ports (chapters 10 and 11) -/

/-- A text message (R192). -/
structure Message where
  sender : Port
  text : List Byte
  deriving DecidableEq, Repr

/-- One value for each port. -/
structure PerPort (α : Type) where
  console : α
  partition : α
  fleet : α
  deriving DecidableEq, Repr

/-- A port's notices: the pulse sources pending (bit n - 1 for source n, R183), the enable set, the message queue. -/
structure PortNotices where
  pulses : BitVec 16
  enabled : BitVec 21
  messages : List Message
  deriving DecidableEq, Repr

/-- The notice unit; the routes stand in source order without MESSAGE (R190). -/
structure Notices where
  ports : PerPort PortNotices
  routes : Vector PortSet 20
  deriving DecidableEq, Repr

/-- A reply in a port's reply buffer, with its read position (R197, R198). -/
structure Reply where
  frame : List Byte
  position : Nat
  deriving DecidableEq, Repr

/-- What a port's data output gave in its last selection: 0 for every byte of a request write (R195), or the bytes of a
reply read (R198). -/
inductive DataOut where
  | zeros
  | bytes (given : List Byte)
  deriving DecidableEq, Repr

/-- A port's buffers, and what its data output gave in the last selection (R195 to R198). -/
structure PortBuffers where
  receive : List Byte
  reply : Option Reply
  dataOut : DataOut
  deriving DecidableEq, Repr

/-! ## The whole part -/

/-- The part. `windowMs` and `secondMs` are where the crystal stands in the open window and in the clock second;
`powered` says whether main power is up; `pending` is the queue of commands. -/
structure State where
  meas : Measurement
  store : TariffStore
  table : PartyTable
  pay : Payment
  journal : RecordStore
  shift : Shift
  sign : Sign
  intercom : Intercom
  notices : Notices
  ports : PerPort PortBuffers
  windowMs : Nat
  secondMs : Nat
  powered : Bool
  pending : List Instr
  deriving DecidableEq, Repr

/-- No command of this part faults: the spec gives each an effect in every state (INVENTORY.md "Faults"). -/
inductive Fault where
  deriving DecidableEq, Repr

/-- Why a command has no meaning. -/
inductive Refusal where
  /-- Raised by an arm of `exec` whose row has no meaning yet; safe, since the model stops. -/
  | notModelled (mnemonic : String)
  deriving DecidableEq, Repr

/-! ## Reset -/

/-- The calibration record at delivery (R8). -/
def Calibration.delivery : Calibration := { k := 6000, ceiling := 2000, count := 0, interlock := 100 }

/-- The measurement unit's window state after a restart (R17). -/
def WindowResult.zero : WindowResult := { charged := 0, excess := 0, windowSpeed := 0, smoothed := 0 }

/-- Tariff 1 of the delivery set (R21). -/
def Tariff.delivery : Tariff :=
  { flagFall := 0, prepaid := 0, stepAmount := 10, distanceStep := 100, timeStep := 30, mode := .single,
    f1 := 256, f2 := 256, f3 := 256, f4 := 256 }

/-- An empty staged set (R22). -/
def TariffSet.empty : TariffSet :=
  { tariffs := Vector.replicate 8 none
    extraKinds := Vector.replicate 8 none
    zoneRules := Vector.replicate 16 none
    defaultDay := 0, defaultNight := 0, defaultHoliday := 0, nightStart := 0, nightEnd := 0 }

/-- The active set at delivery (R21). -/
def TariffSet.delivery : TariffSet :=
  { TariffSet.empty with tariffs := #v[some Tariff.delivery, none, none, none, none, none, none, none] }

/-- All counters 0. -/
def Counters.zero : Counters :=
  { trips := 0, shared := 0, hiredPulses := 0, totalPulses := 0, fareTotal := 0, surcharges := 0, passThroughs := 0,
    tips := 0, cash := 0, cardOnline := 0, cardOffline := 0, overAllowance := 0, declines := 0, aborts := 0,
    expiries := 0, orphans := 0, overruns := 0, excessPulses := 0, lampFaults := 0, powerInterruptions := 0 }

/-- The shift unit at delivery (chapter 7, R140, R142). -/
def Shift.delivery : Shift :=
  { state := .closed, number := some 1, driver := none, openTime := none, closeTime := none, closingRate := none,
    closingK := none, counters := Counters.zero, limitReached := false,
    commission := 400, offlineCap := 20000, tipCap := 300, holdLimit := 120,
    totals := { distance := 0, hiredDistance := 0, trips := 0, fares := 0, totalRemainder := 0, hiredRemainder := 0 } }

/-- A lamp channel after a restart (R158). -/
def Lamp.restarted : Lamp := { override := .normal, dark := 0, latch := false, period := none }

/-- A codec port's monitor after a restart (R160, R182). -/
def Codec.restarted : Codec := { frames := 0, lastFrames := 0, fault := true, badRun := 0, goodRun := 0 }

/-- A path at delivery, its gate as after a restart (R162, R182). -/
def AudioLine.delivery : AudioLine := { gain := 256, release := 200, gate := .muted, held := none }

/-- A speaker after a restart (R182). -/
def Speaker.restarted : Speaker := { playing := none, waiting := [], drops := 0, output := 0 }

/-- The intercom unit at delivery, after its first restart (R182). -/
def Intercom.delivery : Intercom :=
  { codecs := ⟨Codec.restarted, Codec.restarted⟩, paths := ⟨AudioLine.delivery, AudioLine.delivery⟩,
    mode := .halfDuplex, driverMute := false, privacy := false, override := false, keys := ⟨false, false⟩,
    keyPins := ⟨{ level := false, stable := 0, coming := [] }, { level := false, stable := 0, coming := [] }⟩,
    floor := none, claimant := none, floorTimer := none, speakers := ⟨Speaker.restarted, Speaker.restarted⟩ }

/-- A port's notices after a restart (R194): POWER_RECOVERED, source 16, is the one pulse source pending. -/
def PortNotices.restarted : PortNotices := { pulses := 0x8000#16, enabled := BitVec.allOnes 21, messages := [] }

/-- The default routes of R183 in source order, without MESSAGE. -/
def defaultRoutes : Vector PortSet 20 :=
  #v[⟨true, true, true⟩, ⟨true, true, false⟩, ⟨true, false, false⟩, ⟨true, false, false⟩, ⟨true, true, false⟩,
     ⟨true, false, true⟩, ⟨true, true, true⟩, ⟨true, false, false⟩, ⟨true, false, true⟩, ⟨true, false, true⟩,
     ⟨true, false, true⟩, ⟨true, false, false⟩, ⟨true, false, false⟩, ⟨true, false, false⟩, ⟨true, true, true⟩,
     ⟨true, false, true⟩, ⟨true, false, true⟩, ⟨true, false, false⟩, ⟨true, true, false⟩, ⟨true, false, true⟩]

/-- A port's buffers after a restart (R199). -/
def PortBuffers.restarted : PortBuffers := { receive := [], reply := none, dataOut := .zeros }

/-- The part right after reset: a new part at its first restart, every persistent value as delivered and every volatile
value at its restart value, with the restore done (log 1). Its clock stands at the 50th millisecond of a second, since the
seconds are not aligned with the closures (R29, log 2). -/
def State.reset : State :=
  { meas := { raw := 0, closure := 0, last := WindowResult.zero, cal := Calibration.delivery,
              sealState := .opened, sealInput := .opened, sealPin := { level := .opened, stable := 0, coming := [] }, run := .idle }
    store := { activeVersion := 0, active := TariffSet.delivery, staged := TariffSet.empty, stage := .idle,
               clock := 0, clockInvalid := true, holiday := false,
               zone := { known := false, lastCode := none, uncertain := 0, watch := none, threshold := 5, limit := 8 } }
    table := { slots := #v[none, none, none, none], seatLimit := 4, nextHire := some 1, offDuty := false, onCall := false }
    pay := { session := none, recent := [], counter := 1, guardTimer := none, guardTime := 10 }
    journal := { stored := [], nextSeq := 1, places := [], waiting := [], inFlight := false }
    shift := Shift.delivery
    sign := { state := .dark, phase := 0, period := .day, level := 100, dayLevel := 100, nightLevel := 60,
              lamps := #v[Lamp.restarted, Lamp.restarted, Lamp.restarted, Lamp.restarted], test := none,
              sense := ⟨true, true, true, true⟩ }
    intercom := Intercom.delivery
    notices := { ports := ⟨PortNotices.restarted, PortNotices.restarted, PortNotices.restarted⟩, routes := defaultRoutes }
    ports := ⟨PortBuffers.restarted, PortBuffers.restarted, PortBuffers.restarted⟩
    windowMs := 0, secondMs := 50, powered := true, pending := [] }

end Sys2Proof.Machine
end

