-- ==== Sys2Proof/Machine/Access.lean ====
section
/-! DEFINITION. Reading and changing one of several like things: a port's, a codec port's, a path's, a key's, a slot's. -/

namespace Sys2Proof.Machine

/-- Apply `f` to every element of a vector. -/
def mapVector {α β : Type} {n : Nat} (f : α → β) (v : Vector α n) : Vector β n :=
  ⟨⟨v.toArray.toList.map f⟩, by simp⟩

/-- Apply `f` to every element of a list with its place, counted from `i`. -/
def mapFrom {α β : Type} (f : Nat → α → β) : Nat → List α → List β
  | _, [] => []
  | i, x :: xs => f i x :: mapFrom f (i + 1) xs

theorem mapFrom_length {α β : Type} (f : Nat → α → β) (i : Nat) (l : List α) : (mapFrom f i l).length = l.length := by
  induction l generalizing i with
  | nil => rfl
  | cons x xs ih => simp [mapFrom, ih]

/-- Apply `f` to every element of a vector with its place. -/
def mapVectorIdx {α β : Type} {n : Nat} (f : Nat → α → β) (v : Vector α n) : Vector β n :=
  ⟨⟨mapFrom f 0 v.toArray.toList⟩, by simp [mapFrom_length]⟩

/-- The value of port `p`. -/
def PerPort.get {α : Type} (x : PerPort α) : Port → α
  | .console => x.console
  | .partition => x.partition
  | .fleet => x.fleet

/-- Replace the value of port `p`. -/
def PerPort.set {α : Type} (x : PerPort α) : Port → α → PerPort α
  | .console, a => { x with console := a }
  | .partition, a => { x with partition := a }
  | .fleet, a => { x with fleet := a }

/-- Apply `f` to the value of each port. -/
def PerPort.mapEach {α : Type} (x : PerPort α) (f : Port → α → α) : PerPort α :=
  ⟨f .console x.console, f .partition x.partition, f .fleet x.fleet⟩

/-- The value of a codec port. -/
def PerCodec.get {α : Type} (x : PerCodec α) : CodecSide → α
  | .front => x.front
  | .rear => x.rear

/-- Replace the value of a codec port. -/
def PerCodec.set {α : Type} (x : PerCodec α) : CodecSide → α → PerCodec α
  | .front, a => { x with front := a }
  | .rear, a => { x with rear := a }

/-- The value of a path. -/
def PerPath.get {α : Type} (x : PerPath α) : AudioPath → α
  | .frontToRear => x.frontToRear
  | .rearToFront => x.rearToFront

/-- Replace the value of a path. -/
def PerPath.set {α : Type} (x : PerPath α) : AudioPath → α → PerPath α
  | .frontToRear, a => { x with frontToRear := a }
  | .rearToFront, a => { x with rearToFront := a }

/-- The value of a talk key. -/
def PerKey.get {α : Type} (x : PerKey α) : TalkSide → α
  | .driver => x.driver
  | .rear => x.rear

/-- Replace the value of a talk key. -/
def PerKey.set {α : Type} (x : PerKey α) : TalkSide → α → PerKey α
  | .driver, a => { x with driver := a }
  | .rear, a => { x with rear := a }

/-- The speaker at the far end of a path (R159). -/
def farSpeaker : AudioPath → CodecSide
  | .frontToRear => .rear
  | .rearToFront => .front

/-- The path that leaves a codec port's microphone (R159). -/
def pathFrom : CodecSide → AudioPath
  | .front => .frontToRear
  | .rear => .rearToFront

/-- The path that arrives at a codec port's speaker (R159). -/
def pathTo : CodecSide → AudioPath
  | .front => .rearToFront
  | .rear => .frontToRear

/-- The other side of the partition. -/
def otherSide : TalkSide → TalkSide
  | .driver => .rear
  | .rear => .driver

/-- The party in a slot, `none` where the slot is VACANT. -/
def State.party (s : State) (i : Fin 4) : Option Party := s.table.slots[i]

/-- Put a party record in a slot, or clear it (R81). -/
def State.setParty (s : State) (i : Fin 4) (p : Option Party) : State :=
  { s with table := { s.table with slots := s.table.slots.set i p } }

/-- The four slots in order. -/
def State.slotList (s : State) : List (Option Party) := s.table.slots.toArray.toList

/-- The notice sources (R183), in number order. -/
inductive NoticeSource where
  | hireStarted | partyStopped | paymentOpened | paymentResult | paymentExpired | orphanApproval | shiftClosed
  | zoneChanged | zoneLost | sensorOverrun | tariffActive | calibrationPending | rearCall | talkFloor | message
  | powerRecovered | journalNearFull | journalFull | lampFault | audioRateFault | clockInvalid
  deriving DecidableEq, Repr

/-- The number of a source (R183). -/
def NoticeSource.number : NoticeSource → Nat
  | .hireStarted => 1
  | .partyStopped => 2
  | .paymentOpened => 3
  | .paymentResult => 4
  | .paymentExpired => 5
  | .orphanApproval => 6
  | .shiftClosed => 7
  | .zoneChanged => 8
  | .zoneLost => 9
  | .sensorOverrun => 10
  | .tariffActive => 11
  | .calibrationPending => 12
  | .rearCall => 13
  | .talkFloor => 14
  | .message => 15
  | .powerRecovered => 16
  | .journalNearFull => 17
  | .journalFull => 18
  | .lampFault => 19
  | .audioRateFault => 20
  | .clockInvalid => 21

/-- The place of a source number in the route table, which has no entry for MESSAGE, number 15 (R190). -/
def routeIndex (number : Nat) : Option (Fin 20) :=
  match number with
  | 1 => some 0 | 2 => some 1 | 3 => some 2 | 4 => some 3 | 5 => some 4 | 6 => some 5 | 7 => some 6
  | 8 => some 7 | 9 => some 8 | 10 => some 9 | 11 => some 10 | 12 => some 11 | 13 => some 12 | 14 => some 13
  | 16 => some 14 | 17 => some 15 | 18 => some 16 | 19 => some 17 | 20 => some 18 | 21 => some 19
  | _ => none

/-- The mandatory minimums of R183 in route-table order. -/
def mandatoryMinimums : Vector PortSet 20 :=
  #v[.empty, .empty, .empty, .only .console, .only .partition, .only .fleet, .only .fleet, .empty, .empty, .empty,
     .empty, .empty, .only .console, .empty, .every, .empty, .only .fleet, .empty, .empty, .empty]

/-- The route of a source; empty for MESSAGE, which is not routed. -/
def Notices.route (n : Notices) (src : NoticeSource) : PortSet :=
  match routeIndex src.number with
  | some i => n.routes[i]
  | none => .empty

end Sys2Proof.Machine
end

