-- ==== Sys2Proof/Machine/Operands.lean ====
section
/-! DEFINITION. Operand forms: what a code byte of a request names, and the code a value is carried as (R202). A code that
names no value is `none`; the request's rule then refuses it with RANGE. -/

namespace Sys2Proof.Machine

/-- A slot number 0 to 3. -/
def slotOf (b : Byte) : Option (Fin 4) := if h : b.toNat < 4 then some ⟨b.toNat, h⟩ else none

/-- A tariff or extra-kind number 1 to 8. -/
def numberOf (b : Byte) : Option (Fin 8) :=
  if h : 1 ≤ b.toNat ∧ b.toNat ≤ 8 then some ⟨b.toNat - 1, by omega⟩ else none

/-- A zone rule number 1 to 16. -/
def ruleNumberOf (b : Byte) : Option (Fin 16) :=
  if h : 1 ≤ b.toNat ∧ b.toNat ≤ 16 then some ⟨b.toNat - 1, by omega⟩ else none

/-- A two-valued setting: CLEAR or OFF 0, SET or ON 1; also IDLE 0 and ENTRY 1, READ 0 and TAKE 1. -/
def flagOf (b : Byte) : Option Bool :=
  if b.toNat = 0 then some false else if b.toNat = 1 then some true else none

/-- A port. -/
def portOf (b : Byte) : Option Port :=
  if b.toNat = 0 then some .console else if b.toNat = 1 then some .partition else if b.toNat = 2 then some .fleet else none

/-- A set of ports; a byte with a bit that names no port is none. -/
def portSetOf (b : Byte) : Option PortSet :=
  if b.toNat < 8 then some ⟨b.getLsbD 0, b.getLsbD 1, b.getLsbD 2⟩ else none

/-- A set of notice sources; a word with a bit for a number outside 1 to 21 is none. -/
def sourceSetOf (w : BitVec 32) : Option (BitVec 21) :=
  if w.toNat < 2 ^ 21 then some (w.setWidth 21) else none

/-- The item kinds of TARIFF_ITEM and TARIFF_READ (R24). -/
inductive ItemKind where
  | tariff
  | extraKind
  | zoneRule
  | defaults
  deriving DecidableEq, Repr

def itemKindOf (b : Byte) : Option ItemKind :=
  if b.toNat = 0 then some .tariff else if b.toNat = 1 then some .extraKind
  else if b.toNat = 2 then some .zoneRule else if b.toNat = 3 then some .defaults else none

/-- The outcomes of a card payment (R95). -/
inductive CardOutcome where
  | approvedOnline
  | approvedOffline
  | declined
  | aborted
  deriving DecidableEq, Repr

def outcomeOf (b : Byte) : Option CardOutcome :=
  if b.toNat = 0 then some .approvedOnline else if b.toNat = 1 then some .approvedOffline
  else if b.toNat = 2 then some .declined else if b.toNat = 3 then some .aborted else none

def overrideOf (b : Byte) : Option Override :=
  if b.toNat = 0 then some .normal else if b.toNat = 1 then some .on else if b.toNat = 2 then some .off else none

def pathOf (b : Byte) : Option AudioPath :=
  if b.toNat = 0 then some .frontToRear else if b.toNat = 1 then some .rearToFront else none

def modeOf (b : Byte) : Option IntercomMode :=
  if b.toNat = 0 then some .fullDuplex else if b.toNat = 1 then some .halfDuplex
  else if b.toNat = 2 then some .closed else none

def toneOf (b : Byte) : Option Tone :=
  if b.toNat = 0 then some .call else if b.toNat = 1 then some .start else if b.toNat = 2 then some .approved
  else if b.toNat = 3 then some .declined else if b.toNat = 4 then some .expired else none

def speakerOf (b : Byte) : Option CodecSide :=
  if b.toNat = 0 then some .front else if b.toNat = 1 then some .rear else none

/-- A field of `n` bytes at byte `offset` of TARIFF_ITEM's field bytes (R203). -/
def itemField (fields : BitVec 176) (offset n : Nat) : Nat := (fields.extractLsb' (8 * offset) (8 * n)).toNat

/-- The tariff record that the field bytes carry, where every field is in its range (R18, R203). -/
def tariffOf (f : BitVec 176) : Option Tariff :=
  let t : Tariff :=
    { flagFall := itemField f 0 4, prepaid := itemField f 4 1, stepAmount := itemField f 5 4
      distanceStep := itemField f 9 2, timeStep := itemField f 11 2
      mode := if itemField f 13 1 = 0 then .single else .double
      f1 := itemField f 14 2, f2 := itemField f 16 2, f3 := itemField f 18 2, f4 := itemField f 20 2 }
  if t.flagFall ≤ 99999 ∧ 1 ≤ t.stepAmount ∧ t.stepAmount ≤ 100000 ∧ 1 ≤ t.distanceStep ∧ t.distanceStep ≤ 2000 ∧
      1 ≤ t.timeStep ∧ t.timeStep ≤ 600 ∧ itemField f 13 1 ≤ 1 ∧ 1 ≤ t.f1 ∧ t.f1 ≤ 256 ∧ 1 ≤ t.f2 ∧ t.f2 ≤ 256 ∧
      1 ≤ t.f3 ∧ t.f3 ≤ 256 ∧ 1 ≤ t.f4 ∧ t.f4 ≤ 256 then some t
  else none

/-- The extra kind that the field bytes carry, where every field is in its range: the permitted ports are drawn from
console and fleet (R19, R203). -/
def extraKindOf (f : BitVec 176) : Option ExtraKind :=
  match portSetOf (BitVec.ofNat 8 (itemField f 5 1)) with
  | none => none
  | some ports =>
    if itemField f 0 1 ≤ 1 ∧ itemField f 1 4 ≤ 99999 ∧ ports.partition = false then
      some { cls := if itemField f 0 1 = 0 then .surcharge else .passThrough, amount := itemField f 1 4, permitted := ports }
    else none

/-- A number field where 0 stands for none: a zone rule's tariff or entry extra, 0 to 8 (R20). -/
def optionalNumberOf (b : Byte) : Option (Option (Fin 8)) :=
  if b.toNat = 0 then some none else (numberOf b).map some

/-- The zone rule that the field bytes carry, where every field is in its range (R20, R203). -/
def zoneRuleOf (f : BitVec 176) : Option ZoneRule :=
  match optionalNumberOf (BitVec.ofNat 8 (itemField f 4 1)), optionalNumberOf (BitVec.ofNat 8 (itemField f 5 1)),
    optionalNumberOf (BitVec.ofNat 8 (itemField f 6 1)), optionalNumberOf (BitVec.ofNat 8 (itemField f 7 1)) with
  | some day, some night, some holiday, some entry =>
    some { value := BitVec.ofNat 16 (itemField f 0 2), mask := BitVec.ofNat 16 (itemField f 2 2)
           day := day, night := night, holiday := holiday, entryExtra := entry }
  | _, _, _, _ => none

/-- The defaults that the field bytes carry, written into a set; none where a field is out of range (R21, R203). -/
def defaultsOf (f : BitVec 176) (t : TariffSet) : Option TariffSet :=
  match numberOf (BitVec.ofNat 8 (itemField f 0 1)), numberOf (BitVec.ofNat 8 (itemField f 1 1)),
    numberOf (BitVec.ofNat 8 (itemField f 2 1)) with
  | some day, some night, some holiday =>
    if itemField f 3 2 ≤ 1439 ∧ itemField f 5 2 ≤ 1439 then
      some { t with defaultDay := day, defaultNight := night, defaultHoliday := holiday
                    nightStart := itemField f 3 2, nightEnd := itemField f 5 2 }
    else none
  | _, _, _ => none

/-! The codes that values are carried as (R201, R202). -/

/-- The statuses of a reply (00 "Status codes"). -/
inductive Status where
  | ok | clamped | role | state | range | full | sealed | busy | moving | locked | conflict | unknown | format
  deriving DecidableEq, Repr

/-- The status byte (R201). -/
def Status.code : Status → Nat
  | .ok => 0
  | .clamped => 1
  | .role => 2
  | .state => 3
  | .range => 4
  | .full => 5
  | .sealed => 6
  | .busy => 7
  | .moving => 8
  | .locked => 9
  | .conflict => 10
  | .unknown => 11
  | .format => 12

def portCode : Port → Nat
  | .console => 0
  | .partition => 1
  | .fleet => 2

def portSetCode (s : PortSet) : Nat :=
  (if s.console then 1 else 0) + (if s.partition then 2 else 0) + (if s.fleet then 4 else 0)

def partyStateCode : PartyState → Nat
  | .running => 1
  | .stopped => 2
  | .paying => 3
  | .closing => 4

def slotStateCode : Option Party → Nat
  | none => 0
  | some p => partyStateCode p.state

def runCode : CalRun → Nat
  | .idle => 0
  | .ready _ => 1
  | .counting _ _ => 2
  | .done _ _ _ => 3
  | .failed _ _ _ => 4
  | .adopting _ _ _ _ => 5

def sealCode : Seal → Nat
  | .opened => 0
  | .closed => 1

def stageCode : Stage → Nat
  | .idle => 0
  | .loading => 1
  | .armed _ => 2
  | .activating _ => 3

def periodCode : Period → Nat
  | .day => 0
  | .night => 1
  | .holiday => 2

def classCode : ExtraClass → Nat
  | .surcharge => 0
  | .passThrough => 1

def causeCode : CloseCause → Nat
  | .result => 0
  | .expired => 1

def shiftStateCode : ShiftState → Nat
  | .closed => 0
  | .opened => 1
  | .closing => 2

def signCode : SignState → Nat
  | .dark => 0
  | .offDuty => 1
  | .free => 2
  | .onCall => 3
  | .shareOpen => 4
  | .hired => 5
  | .arrived => 6

def overrideCode : Override → Nat
  | .normal => 0
  | .on => 1
  | .off => 2

def gateCode : Gate → Nat
  | .muted => 0
  | .releasing _ => 1
  | .passing => 2

def modeCode : IntercomMode → Nat
  | .fullDuplex => 0
  | .halfDuplex => 1
  | .closed => 2

def floorCode : Option TalkSide → Nat
  | none => 0
  | some .driver => 1
  | some .rear => 2

def toneCode : Tone → Nat
  | .call => 0
  | .start => 1
  | .approved => 2
  | .declined => 3
  | .expired => 4

def entryCode : EntryBody → Nat
  | .trip _ => 1
  | .shift _ => 2
  | .orphan _ => 3
  | .calibration _ _ _ _ _ => 4
  | .tariff _ _ => 5

end Sys2Proof.Machine
end

