-- ==== Sys2Proof/Machine/Flags.lean ====
section
/-! DEFINITION. The conditions and flags that the rules compute from the state: counts of slots, the journal's room, the
period, the matching zone rule and the tariff selection, the amounts of a party, the sign state and lamp phases, the mute
factors, the level notices, and the notice and ready lines. -/

namespace Sys2Proof.Machine

/-! ## Slots and journal room -/

/-- Whether a slot holds a party in the given state. -/
def slotIn (st : PartyState) : Option Party → Bool
  | some p => decide (p.state = st)
  | none => false

/-- The number of non-vacant slots (R60). -/
def State.nonVacant (s : State) : Nat := s.slotList.countP Option.isSome

/-- The number of RUNNING parties. -/
def State.runningCount (s : State) : Nat := s.slotList.countP (slotIn .running)

/-- The queued count: the entries in places and the waiting entries together (R113). -/
def RecordStore.queued (j : RecordStore) : Nat := j.places.length + j.waiting.length

/-- The free count of the journal (R115). -/
def RecordStore.free (j : RecordStore) : Nat :=
  min (Config.journalCapacity - j.stored.length - j.queued) (4294967296 - j.nextSeq - j.queued)

/-- Whether an entry is the TRIP entry of a hire. -/
def isTripOf (hire : Nat) : EntryBody → Bool
  | .trip e => decide (e.hire = hire)
  | _ => false

/-- Whether the TRIP entry of a hire is queued. -/
def RecordStore.tripQueued (j : RecordStore) (hire : Nat) : Bool :=
  (j.places ++ j.waiting).any (isTripOf hire)

/-- Whether the reserve of R115 counts a slot: it is non-vacant and its TRIP entry is not queued. -/
def RecordStore.reserves (j : RecordStore) : Option Party → Bool
  | none => false
  | some p => !(decide (p.state = .closing) && j.tripQueued p.hire)

/-- The reserve: the non-vacant slots whose TRIP entry is not queued, plus 1 while the shift is OPEN (R115, R118). -/
def State.reserve (s : State) : Nat :=
  s.slotList.countP s.journal.reserves + (if s.shift.state = .opened then 1 else 0)

/-- Whether the append queue has a free place (R113). -/
def RecordStore.placeFree (j : RecordStore) : Bool := decide (j.places.length < Config.appendPlaces)

/-- Whether the journal has the room an orphan approval entry needs (R97). -/
def State.orphanRoom (s : State) : Bool :=
  decide (s.nonVacant + (if s.shift.state = .opened then 1 else 0) < s.journal.free) && s.journal.placeFree

/-- Whether the vehicle counts as moving (R7). -/
def Measurement.moving (m : Measurement) : Bool :=
  decide (m.cal.interlock ≠ 0) && decide (m.cal.interlock < m.last.smoothed)

/-- Whether the stage is ACTIVATING (R26). -/
def Stage.isActivating : Stage → Bool
  | .activating _ => true
  | _ => false

/-- Whether the calibration run is ADOPTING (R14). -/
def CalRun.isAdopting : CalRun → Bool
  | .adopting _ _ _ _ => true
  | _ => false

/-! ## Clock, period, zone rules and tariff selection (chapter 2) -/

/-- The calendar clock's value as a time stamp (R61). -/
def TariffStore.now (t : TariffStore) : Stamp := { clock := t.clock, invalid := t.clockInvalid }

/-- The minute of the day of a clock value (R29). -/
def minuteOfDay (clock : Nat) : Nat := clock / 60 % 1440

/-- Whether a minute lies in the night band (R21). -/
def inNightBand (start stop minute : Nat) : Bool :=
  if start < stop then decide (start ≤ minute) && decide (minute < stop)
  else if stop < start then decide (start ≤ minute) || decide (minute < stop)
  else false

/-- The period (R32). -/
def TariffStore.period (t : TariffStore) : Period :=
  if t.clockInvalid then .day
  else if t.holiday then .holiday
  else if inNightBand t.active.nightStart t.active.nightEnd (minuteOfDay t.clock) then .night
  else .day

/-- Whether a zone rule matches a code (R20). -/
def ZoneRule.matchesCode (r : ZoneRule) (code : BitVec 16) : Bool := decide (code &&& r.mask = r.value &&& r.mask)

/-- The first rule in list order that matches, with its number; the list starts at rule number `n` (R20). -/
def firstMatch (code : BitVec 16) : Nat → List (Option ZoneRule) → Option (Nat × ZoneRule)
  | _, [] => none
  | n, none :: rules => firstMatch code (n + 1) rules
  | n, some r :: rules => if r.matchesCode code then some (n, r) else firstMatch code (n + 1) rules

/-- The matching rule with its number, while the zone is KNOWN (R20). -/
def TariffStore.matchingRule (t : TariffStore) : Option (Nat × ZoneRule) :=
  if t.zone.known then
    match t.zone.lastCode with
    | some code => firstMatch code 1 t.active.zoneRules.toArray.toList
    | none => none
  else none

/-- A set's default tariff of a period (R21). -/
def TariffSet.defaultFor (t : TariffSet) : Period → TariffNo
  | .day => t.defaultDay
  | .night => t.defaultNight
  | .holiday => t.defaultHoliday

/-- A zone rule's tariff of a period; none stands for the default (R20). -/
def ZoneRule.tariffFor (r : ZoneRule) : Period → Option TariffNo
  | .day => r.day
  | .night => r.night
  | .holiday => r.holiday

/-- The tariff that R38's steps choose, before the fallback. -/
def TariffStore.chosenTariff (t : TariffStore) (pin : Option TariffNo) : TariffNo :=
  match pin with
  | some n => n
  | none =>
    match t.matchingRule with
    | some (_, r) => (r.tariffFor t.period).getD (t.active.defaultFor t.period)
    | none => t.active.defaultFor t.period

/-- The tariff-selection function (R38): a chosen tariff that the active set lacks gives tariff 1. -/
def TariffStore.selectTariff (t : TariffStore) (pin : Option TariffNo) : TariffNo :=
  if (t.active.tariffs[t.chosenTariff pin]).isSome then t.chosenTariff pin else 0

/-- The record of a tariff of the set. Selection gives only present tariffs, since tariff 1 is always present (R18); the
delivery record for a set without tariff 1 is never reached (log 26). -/
def TariffSet.record (t : TariffSet) (n : TariffNo) : Tariff :=
  match t.tariffs[n] with
  | some r => r
  | none => (t.tariffs[(0 : TariffNo)]).getD Tariff.delivery

/-! ## Amounts of a party (R57, R58, R84) -/

/-- The applied amount of a tender. -/
def Tender.applied : Tender → Nat
  | .cash a => a
  | .cardOnline a _ _ _ => a
  | .cardOffline a _ _ _ _ => a

/-- The applied amount of a CARD_OFFLINE tender, 0 for another. -/
def Tender.offlineApplied : Tender → Nat
  | .cardOffline a _ _ _ _ => a
  | _ => 0

/-- The sum of the extras' amounts. -/
def extrasTotal (l : List Extra) : Nat := (l.map (·.amount)).sum

/-- The sum of the applied amounts of the tenders. -/
def tendersTotal (l : List Tender) : Nat := (l.map Tender.applied).sum

/-- The amount due (R57). -/
def Party.due (p : Party) : Nat := min moneyMax (p.fare + extrasTotal p.extras + p.tip)

/-- The amount remaining (R57). -/
def Party.remaining (p : Party) : Nat := p.due - tendersTotal p.tenders

/-- The party distance in metres (R58). -/
def Party.metres (p : Party) (k : Nat) : Nat := p.pulses * 1000 / k

/-- The charged time in seconds (R58). -/
def Party.seconds (p : Party) : Nat := p.windows / 10

/-- Whether a tender of the amount offered can take a place in the list (R84, step 2). -/
def Party.canTake (p : Party) (offered : Nat) : Bool :=
  decide (p.tenders.length < 3) || (decide (p.tenders.length = 3) && decide (p.remaining ≤ offered))

/-- The offline tenders held in a slot. -/
def slotOffline : Option Party → Nat
  | some p => (p.tenders.map Tender.offlineApplied).sum
  | none => 0

/-- The offline applied of the shift (R90). -/
def State.offlineApplied (s : State) : Nat := s.shift.counters.cardOffline + (s.slotList.map slotOffline).sum

/-- The offline allowance remaining (R90). -/
def State.allowance (s : State) : Nat := s.shift.offlineCap - s.offlineApplied

/-! ## Figures of a shift report (R139) -/

/-- The hired distance in metres. -/
def ShiftReport.hiredMetres (r : ShiftReport) : Nat := r.counters.hiredPulses * 1000 / r.k

/-- The total distance in metres. -/
def ShiftReport.totalMetres (r : ShiftReport) : Nat := r.counters.totalPulses * 1000 / r.k

/-- The commission base. -/
def ShiftReport.base (r : ShiftReport) : Nat := r.counters.fareTotal + r.counters.surcharges

/-- The driver share, rounded half up and held at its limit. -/
def ShiftReport.share (r : ShiftReport) : Nat := min shiftMoneyMax ((r.base * r.rate + 500) / 1000)

/-- The net owed by the driver, held at its lower limit. -/
def ShiftReport.netOwed (r : ShiftReport) : Int :=
  max (-(shiftMoneyMax : Int)) ((r.counters.cash : Int) - r.share - r.counters.tips)

/-- Whether the report's open or close time was stamped while the clock was INVALID (R138). -/
def ShiftReport.clockInvalid (r : ShiftReport) : Bool :=
  r.openTime.invalid || (match r.closeTime with | some t => t.invalid | none => false)

/-! ## Sign and lamps (chapter 8) -/

/-- The sign state as R146 derives it. -/
def State.deriveSign (s : State) : SignState :=
  if s.shift.state ≠ .opened then .dark
  else if s.nonVacant = 0 then
    if s.table.offDuty then .offDuty else if s.table.onCall then .onCall else .free
  else if s.runningCount = 0 then .arrived
  else if s.nonVacant < s.table.seatLimit then .shareOpen
  else .hired

/-- The four modes of a lamp channel (R148). -/
inductive ChannelMode where
  | dark
  | steady
  | blink
  | strobe
  deriving DecidableEq, Repr

def channelModeCode : ChannelMode → Nat
  | .dark => 0
  | .steady => 1
  | .blink => 2
  | .strobe => 3

/-- The mode of a channel under a sign state (R148); channels 0 to 3 are the FREE, HIRED, SHARE and OFF lamps. -/
def channelMode : SignState → Nat → ChannelMode
  | .offDuty, 3 => .steady
  | .free, 0 => .steady
  | .onCall, 0 => .strobe
  | .shareOpen, 1 => .steady
  | .shareOpen, 2 => .steady
  | .hired, 1 => .steady
  | .arrived, 1 => .blink
  | _, _ => .dark

/-- Whether a mode is in its on phase at a phase-timer value (R148). -/
def ChannelMode.lit (m : ChannelMode) (phase : Nat) : Bool :=
  match m with
  | .dark => false
  | .steady => true
  | .blink => decide (phase < 500)
  | .strobe => decide (phase < 100)

/-- Whether a channel is in its on phase, its override first (R152). -/
def Sign.channelLit (g : Sign) (i : Nat) (l : Lamp) : Bool :=
  match l.override with
  | .on => true
  | .off => false
  | .normal => (channelMode g.state i).lit g.phase

/-- The on-slot count of a brightness level (R149). -/
def onSlots (level : Nat) : Nat := (level * 256 + 50) / 100

/-- Whether a channel's output is driven at this moment: in an on phase, for the first slots of its modulation period up to
the on-slot count (R149). -/
def Lamp.driven (l : Lamp) : Bool :=
  match l.period with
  | some m => decide (m.slot < m.width)
  | none => false

/-- The level that a period puts in use (R149). -/
def Sign.levelFor (g : Sign) : Period → Nat
  | .night => g.nightLevel
  | _ => g.dayLevel

/-- The end of the phase that the sign's BLINK or STROBE channel is in, and none where no channel has such a mode:
500 or 1,000 for ARRIVED, 100 or 1,000 for ON_CALL (R148). -/
def Sign.phaseEnd (g : Sign) : Option Nat :=
  match g.state with
  | .arrived => some (if g.phase < 500 then 500 else 1000)
  | .onCall => some (if g.phase < 100 then 100 else 1000)
  | _ => none

/-- Sense of one channel. -/
def senseAt (x : LampSense) : Nat → Bool
  | 0 => x.free
  | 1 => x.hired
  | 2 => x.share
  | _ => x.off

/-! ## Intercom (chapter 9) -/

/-- Whether either codec port's rate fault is set (R161). -/
def Intercom.rateFault (c : Intercom) : Bool := c.codecs.front.fault || c.codecs.rear.fault

/-- Whether the session's PIN state is ENTRY (R92). -/
def Payment.pinEntry (p : Payment) : Bool :=
  match p.session with
  | some x => x.pinEntry
  | none => false

/-- The mute factors of a path (R163). -/
structure Factors where
  rate : Bool
  closed : Bool
  driverMute : Bool
  privacy : Bool
  pin : Bool
  pinGuard : Bool
  floor : Bool
  tone : Bool
  deriving DecidableEq, Repr

/-- The mute factors active on a path (R163). -/
def State.factors (s : State) (path : AudioPath) : Factors :=
  { rate := s.intercom.rateFault
    closed := decide (s.intercom.mode = .closed)
    driverMute := decide (path = .frontToRear) && s.intercom.driverMute
    privacy := decide (path = .rearToFront) && s.intercom.privacy
    pin := decide (path = .rearToFront) && s.pay.pinEntry
    pinGuard := decide (path = .rearToFront) && s.pay.guardTimer.isSome
    floor := decide (s.intercom.mode = .halfDuplex) &&
      (match path with
       | .frontToRear => decide (s.intercom.floor = some .rear)
       | .rearToFront => decide (s.intercom.floor = some .driver))
    tone := (s.intercom.speakers.get (farSpeaker path)).playing.isSome }

/-- Whether any factor is active. -/
def Factors.any (f : Factors) : Bool :=
  f.rate || f.closed || f.driverMute || f.privacy || f.pin || f.pinGuard || f.floor || f.tone

/-- The set of factors as its byte (R202). -/
def Factors.code (f : Factors) : Nat :=
  (if f.rate then 1 else 0) + (if f.closed then 2 else 0) + (if f.driverMute then 4 else 0) +
  (if f.privacy then 8 else 0) + (if f.pin then 16 else 0) + (if f.pinGuard then 32 else 0) +
  (if f.floor then 64 else 0) + (if f.tone then 128 else 0)

/-! ## Level notices and lines (chapter 10) -/

/-- Whether any lamp fault latch is set (R156). -/
def Sign.anyLatch (g : Sign) : Bool := g.lamps.toArray.toList.any (·.latch)

/-- Whether a level source's condition holds (R183, R185); no pulse source has one. -/
def State.levelHolds (s : State) : NoticeSource → Bool
  | .journalNearFull => decide (Config.nearFull ≤ s.journal.stored.length + s.journal.queued)
  | .journalFull => decide (s.journal.free = 0)
  | .lampFault => s.sign.anyLatch
  | .audioRateFault => s.intercom.rateFault
  | .clockInvalid => s.store.clockInvalid
  | _ => false

/-- The five level sources in number order. -/
def levelSources : List NoticeSource := [.journalNearFull, .journalFull, .lampFault, .audioRateFault, .clockInvalid]

/-- Whether a level source is pending at a port: its condition holds and the port is in its route (R185). -/
def State.levelPending (s : State) (p : Port) (src : NoticeSource) : Bool :=
  s.levelHolds src && (s.notices.route src).has p

/-- A level source's bit of a pending set, number 17 at bit 0. -/
def State.levelBit (s : State) (p : Port) (src : NoticeSource) (weight : Nat) : Nat :=
  if s.levelPending p src then weight else 0

/-- The pending set of a port (R184, R185): the pulse sources pending below the level sources. -/
def State.pendingSet (s : State) (p : Port) : BitVec 21 :=
  BitVec.ofNat 5 (s.levelBit p .journalNearFull 1 + s.levelBit p .journalFull 2 + s.levelBit p .lampFault 4 +
    s.levelBit p .audioRateFault 8 + s.levelBit p .clockInvalid 16) ++ (s.notices.ports.get p).pulses

/-- Whether a port's notice line is asserted (R186); without main power nothing is driven. -/
def State.noticeLine (s : State) (p : Port) : Bool :=
  s.powered && decide (s.pendingSet p &&& (s.notices.ports.get p).enabled ≠ 0)

/-- Whether a port's ready line is asserted (R197, R198). -/
def State.readyLine (s : State) (p : Port) : Bool := s.powered && (s.ports.get p).reply.isSome

end Sys2Proof.Machine
end

