-- ==== Sys2Proof/Machine/Layout.lean ====
section
/-! DEFINITION. The byte layouts of chapter 11: numbers, flags, clock values and presence fields (R201, R204), the party
record, the tender, the payment ticket, the journal entries and the shift report. -/

namespace Sys2Proof.Machine

/-- A number of one byte. -/
def u8 (n : Nat) : List Byte := leBytes 1 n

/-- A number of two bytes. -/
def u16 (n : Nat) : List Byte := leBytes 2 n

/-- A number of four bytes. -/
def u32 (n : Nat) : List Byte := leBytes 4 n

/-- A number of eight bytes. -/
def u64 (n : Nat) : List Byte := leBytes 8 n

/-- A flag, or an item that answers yes or no (R204). -/
def yesNo (b : Bool) : List Byte := u8 (if b then 1 else 0)

/-- A clock value: 4 bytes, then a byte whose bit 0 is its clock-invalid flag (R204). -/
def clockValue (t : Stamp) : List Byte := u32 t.clock ++ yesNo t.invalid

/-- A signed number of four bytes in two's complement (R201). -/
def i32 (x : Int) : List Byte := u32 (BitVec.ofInt 32 x).toNat

/-- The number whose bit `k` is the `k`-th of the flags, counted from 0. -/
def flagBits : List Bool → Nat
  | [] => 0
  | b :: bs => (if b then 1 else 0) + 2 * flagBits bs

/-- A presence field: as many whole bytes as the items need, bit k - 1 for the k-th item (R204). -/
def presence (items : List Bool) : List Byte := leBytes ((items.length + 7) / 8) (flagBits items)

/-- A list: a 1-byte count and its items (R204). -/
def counted {α : Type} (f : α → List Byte) (l : List α) : List Byte := u8 l.length ++ l.flatMap f

/-- A metre figure in a 4-byte field; a figure 4 bytes cannot hold is a free value (log 16). -/
def metresField (d : Nat) : List Byte := if d ≤ max32 then u32 d else u32 (Config.oversizeMetres d).toNat

/-- An item of an extras list (R201). -/
def extraBytes (e : Extra) : List Byte := u8 (e.kind.val + 1) ++ u8 (classCode e.cls) ++ u32 e.amount

/-- A tender, 16 bytes (R201). -/
def tenderBytes : Tender → List Byte
  | .cash a => u8 0 ++ u8 0 ++ u16 0 ++ u32 a ++ u32 0 ++ u32 0
  | .cardOnline a pay ref ex => u8 1 ++ u8 0 ++ u16 pay ++ u32 a ++ u32 ref ++ u32 ex
  | .cardOffline a pay ref ex beyond => u8 2 ++ yesNo beyond ++ u16 pay ++ u32 a ++ u32 ref ++ u32 ex

/-- A tariff or kind number, 0 where absent (R201). -/
def numberCode (n : Option (Fin 8)) : Nat :=
  match n with
  | some i => i.val + 1
  | none => 0

/-- A code of 16 bits, 0 where absent. -/
def codeOrZero (c : Option (BitVec 16)) : Nat :=
  match c with
  | some x => x.toNat
  | none => 0

/-- The party record of a slot (R201). -/
def partyBytes (k slot : Nat) : Option Party → List Byte
  | none => u8 slot ++ u8 0
  | some p =>
    u8 slot ++ u8 (partyStateCode p.state) ++
    u8 (flagBits [p.stopTime.isSome, p.zoneAtStart.isSome, p.pin.isSome, p.payment.isSome]) ++
    u8 (flagBits [p.saturated, p.extraDropped, p.powerInterrupted, p.lateApproval, p.excessCharged, p.joining, p.counted]) ++
    u32 p.hire ++ u32 p.startTime.clock ++ u32 ((p.stopTime.map (·.clock)).getD 0) ++
    u8 (flagBits [p.startTime.invalid, (p.stopTime.map (·.invalid)).getD false]) ++
    u16 (codeOrZero p.zoneAtStart) ++ u8 (p.current.val + 1) ++ u8 (p.first.val + 1) ++ u8 (numberCode p.pin) ++
    u8 p.mostConcurrent ++ u16 p.switches ++ leBytes 7 p.progress ++ u8 p.prepaid ++ u32 p.steps ++ u32 p.fare ++
    u32 p.pulses ++ u32 p.windows ++ u32 p.tip ++ u16 (p.payment.getD 0) ++ u16 p.chargedRules.toNat ++
    u32 (extrasTotal p.extras) ++ u32 p.due ++ u32 (tendersTotal p.tenders) ++ u32 p.remaining ++
    metresField (p.metres k) ++ u32 p.seconds ++ u8 p.extras.length ++ u8 p.tenders.length ++
    p.extras.flatMap extraBytes ++ p.tenders.flatMap tenderBytes

/-- The twenty counters in the order of R129's table, 4 bytes each (R204). -/
def counterBytes (c : Counters) : List Byte :=
  [c.trips, c.shared, c.hiredPulses, c.totalPulses, c.fareTotal, c.surcharges, c.passThroughs, c.tips, c.cash,
   c.cardOnline, c.cardOffline, c.overAllowance, c.declines, c.aborts, c.expiries, c.orphans, c.overruns,
   c.excessPulses, c.lampFaults, c.powerInterruptions].flatMap u32

/-- The items of a shift report in the order of R138's table, without their presence field. -/
def reportItems (r : ShiftReport) : List Byte :=
  u32 r.number ++ u32 r.driver ++ clockValue r.openTime ++
  (match r.closeTime with | some t => clockValue t | none => u32 0 ++ u8 0) ++
  yesNo r.clockInvalid ++ counterBytes r.counters ++ yesNo r.limitReached ++ u16 r.k ++
  u64 r.hiredMetres ++ u64 r.totalMetres ++ u16 r.rate ++ u32 r.base ++ u32 r.share ++ i32 r.netOwed

/-- A shift report: its presence field (the close time) and its items (R138, R204). -/
def reportBytes (r : ShiftReport) : List Byte := presence [r.closeTime.isSome] ++ reportItems r

/-- The body of a TRIP entry (R201). -/
def tripBytes (e : TripEntry) : List Byte :=
  u32 e.hire ++ u8 e.slot.val ++ u8 (flagBits [e.zoneAtStart.isSome, e.clockInvalid]) ++
  u8 (flagBits [e.saturated, e.extraDropped, e.powerInterrupted, e.lateApproval, e.excessCharged]) ++
  u32 e.startTime ++ u32 e.stopTime ++ u16 (codeOrZero e.zoneAtStart) ++ u8 (e.first.val + 1) ++ u8 (e.last.val + 1) ++
  u16 e.switches ++ u8 e.mostConcurrent ++ metresField e.distance ++ u32 e.chargedTime ++ u32 e.steps ++ u32 e.fare ++
  u32 e.tip ++ u8 e.extras.length ++ u8 e.tenders.length ++ e.extras.flatMap extraBytes ++ e.tenders.flatMap tenderBytes

/-- The body of an entry (R201, R204). -/
def bodyBytes : EntryBody → List Byte
  | .trip e => tripBytes e
  | .shift r => reportBytes r
  | .orphan o =>
    presence [o.hire.isSome] ++ u16 o.payment ++ u32 (o.hire.getD 0) ++ yesNo o.offline ++ u32 o.amount ++ u32 o.reference
  | .calibration oldK newK oldC newC count => u16 oldK ++ u16 newK ++ u16 oldC ++ u16 newC ++ u32 count
  | .tariff old new => u16 old.toNat ++ u16 new.toNat

/-- An entry: its 10-byte head and its body (R201). -/
def entryBytes (e : Entry) : List Byte :=
  u8 (entryCode e.body) ++ u32 e.seq ++ u32 e.time.clock ++ yesNo e.time.invalid ++ bodyBytes e.body

/-- The 22 field bytes of a tariff record (R203). -/
def tariffFields (t : Tariff) : List Byte :=
  u32 t.flagFall ++ u8 t.prepaid ++ u32 t.stepAmount ++ u16 t.distanceStep ++ u16 t.timeStep ++
  u8 (match t.mode with | .single => 0 | .double => 1) ++ u16 t.f1 ++ u16 t.f2 ++ u16 t.f3 ++ u16 t.f4

/-- The 22 field bytes of an extra kind (R203). -/
def extraKindFields (e : ExtraKind) : List Byte :=
  u8 (classCode e.cls) ++ u32 e.amount ++ u8 (portSetCode e.permitted) ++ leBytes 16 0

/-- The 22 field bytes of a zone rule (R203). -/
def zoneRuleFields (r : ZoneRule) : List Byte :=
  u16 r.value.toNat ++ u16 r.mask.toNat ++ u8 (numberCode r.day) ++ u8 (numberCode r.night) ++
  u8 (numberCode r.holiday) ++ u8 (numberCode r.entryExtra) ++ leBytes 14 0

/-- The 22 field bytes of the defaults (R203). -/
def defaultsFields (t : TariffSet) : List Byte :=
  u8 (t.defaultDay.val + 1) ++ u8 (t.defaultNight.val + 1) ++ u8 (t.defaultHoliday.val + 1) ++
  u16 t.nightStart ++ u16 t.nightEnd ++ leBytes 15 0

/-- The form byte and field bytes of a place of a set: form 0 and zeros where it is absent or empty (R203). -/
def itemBytes {α : Type} (f : α → List Byte) : Option α → List Byte
  | some x => u8 1 ++ f x
  | none => u8 0 ++ leBytes 22 0

/-- The milliseconds left of a timer, 0 when it is stopped (log 12). -/
def timerValue (t : Option Nat) : Nat := t.getD 0

end Sys2Proof.Machine
end

