-- ==== Sys2Proof/Machine/Ops.lean ====
section
/-! DEFINITION. The operations that the commands share: answering a request, raising notices, deriving the sign afresh,
settling the gates, requesting tones, queuing and counting entries, applying tenders and closing a session. -/

namespace Sys2Proof.Machine

/-- What a step answers. -/
abbrev Result := Host.Outcome State Fault Refusal

/-! ## Requests and events -/

/-- A reply frame (R201): status, kind echo, result length, results. -/
def replyFrame (st : Status) (kind : Nat) (results : List Byte) : List Byte :=
  u8 st.code ++ u8 kind ++ u16 results.length ++ results

/-- Replace a port's reply buffer by a reply, its read position at its first byte (R197); the request write that it
answers gave 0 on the data output (R195). -/
def State.putReply (s : State) (p : Port) (kind : Nat) (st : Status) (results : List Byte) : State :=
  { s with ports := s.ports.set p { (s.ports.get p) with
      receive := [], reply := some { frame := replyFrame st kind results, position := 0 }, dataOut := .zeros } }

/-- What a request's own rule does: the state it leaves, the status and the results of its reply. -/
structure Answer where
  state : State
  status : Status
  results : List Byte

/-- A refusal without results that changes no state (00 "Clamps and refusals"). -/
def refuse (s : State) (st : Status) : Answer := { state := s, status := st, results := [] }

/-- Take a request (R197): nothing is taken without main power; a port without the role is answered ROLE and changes
nothing but its reply buffer; otherwise the request's own rule acts and its reply replaces the port's reply buffer. -/
def request (p : Port) (k : Kind) (body : State → Answer) (s : State) : Result :=
  if s.powered then
    if k.ports.has p then
      .next ((body s).state.putReply p k.code (body s).status (body s).results)
    else .next (s.putReply p k.code .role [])
  else .next s

/-- An event of the part, which does not happen without main power (log 10). -/
def event (f : State → State) (s : State) : Result := if s.powered then .next (f s) else .next s

/-! ## Notices (R184) -/

/-- The bit of a pulse source in a port's pending pulses. -/
def NoticeSource.bit (src : NoticeSource) : BitVec 16 := 1#16 <<< (src.number - 1)

/-- Add a pulse source to one port's pending set. -/
def PortNotices.add (x : PortNotices) (src : NoticeSource) : PortNotices := { x with pulses := x.pulses ||| src.bit }

/-- Raise a pulse source: it becomes pending at every port of its route (R184). -/
def State.raise (s : State) (src : NoticeSource) : State :=
  { s with notices := { s.notices with
      ports := s.notices.ports.mapEach (fun p x => if (s.notices.route src).has p then x.add src else x) } }

/-- Raise a pulse source when a condition holds. -/
def State.raiseIf (s : State) (c : Bool) (src : NoticeSource) : State := if c then s.raise src else s

/-! ## Debounced inputs (R9, R169) -/

/-- An input found at a level, from which a change is counted anew. -/
def Pin.at {α : Type} (x : Pin α) (level : α) : Pin α := { x with level := level, stable := 0 }

/-- An input one millisecond on: at its next level, one millisecond longer at a level other than the debounced one, or
back at the debounced one (R9, R169). -/
def Pin.tick {α : Type} [DecidableEq α] (x : Pin α) (debounced : α) : Pin α :=
  let level := x.coming.headD x.level
  { level := level, stable := if level = debounced then 0 else x.stable + 1, coming := x.coming.tail }

/-! ## Sign (R147) -/

/-- A channel's lamp brought in step with its phase (R149): the off phase runs no modulation period, and the start of an
on phase begins one at its first slot, with the on-slot count in use. -/
def Lamp.settle (l : Lamp) (lit : Bool) (width : Nat) : Lamp :=
  if lit then { l with period := some (l.period.getD { slot := 0, width := width }) } else { l with period := none }

/-- The sign with every lamp in step with its channel's phase. -/
def Sign.settleLamps (g : Sign) : Sign :=
  { g with lamps := mapVectorIdx (fun i l => l.settle (g.channelLit i l) (onSlots g.level)) g.lamps }

/-- Whether a mode follows the phase timer, so that a channel that enters it begins an on phase (R148). -/
def ChannelMode.timed : ChannelMode → Bool
  | .blink => true
  | .strobe => true
  | _ => false

/-- The sign enters a state (R147): the phase timer restarts, and a channel that enters BLINK or STROBE begins an on phase
at once, whatever it showed before (R148; a forced channel's on phase goes on, R152). -/
def Sign.enter (g : Sign) (st : SignState) : Sign :=
  Sign.settleLamps { g with
    state := st, phase := 0
    lamps := mapVectorIdx (fun i l =>
      if (channelMode st i).timed ∧ l.override = .normal then { l with period := none } else l) g.lamps }

/-- Derive the sign state afresh; where it changes, the sign enters the new state (R147). -/
def State.updateSign (s : State) : State :=
  if s.deriveSign = s.sign.state then s else { s with sign := s.sign.enter s.deriveSign }

/-- Bring the lamps in step with their channels' phases. -/
def State.settleSign (s : State) : State := { s with sign := s.sign.settleLamps }

/-- Every override NORMAL and the test timer stopped, the lamps not yet in step (R153, R154). -/
def Sign.dropTest (g : Sign) : Sign :=
  { g with lamps := mapVector (fun l => { l with override := .normal }) g.lamps, test := none }

/-- The end of a lamp test under the sign state in force (R153). -/
def Sign.endTest (g : Sign) : Sign := g.dropTest.settleLamps

/-- Derive the sign afresh in the update that cancels a lamp test: the channels take the modes of the state so derived
(R154), and a channel whose override and whose mode there both keep it in its on phase goes on in its modulation period
(log 25). -/
def State.cancelTest (s : State) : State := (State.updateSign { s with sign := s.sign.dropTest }).settleSign

/-! ## Gates (R165) -/

/-- A path after an update that leaves its factors active or not: an active factor mutes the gate; without one a MUTED
gate enters RELEASING, or PASSING where the release delay is 0. -/
def gateAfter (active : Bool) (l : AudioLine) : AudioLine :=
  if active then { l with gate := .muted }
  else
    match l.gate with
    | .muted => { l with gate := if l.release = 0 then .passing else .releasing l.release }
    | _ => l

/-- Bring both gates in step with the factors of their paths. -/
def State.settleGates (s : State) : State :=
  { s with intercom := { s.intercom with paths :=
      { frontToRear := gateAfter (s.factors .frontToRear).any s.intercom.paths.frontToRear
        rearToFront := gateAfter (s.factors .rearToFront).any s.intercom.paths.rearToFront } } }

/-! ## Tones (R176, R177) -/

/-- A beep of a half period in frames, or a gap (half period 0), and its length in frames. -/
structure ToneSegment where
  half : Nat
  frames : Nat
  deriving DecidableEq, Repr

/-- The beeps and gaps of a tone (R176): half periods 4, 8, 16 and 32 are 2,000, 1,000, 500 and 250 Hz. -/
def toneSegments : Tone → List ToneSegment
  | .call => [⟨8, 2400⟩, ⟨0, 1600⟩, ⟨8, 2400⟩]
  | .start => [⟨4, 1280⟩]
  | .approved => [⟨16, 1600⟩, ⟨8, 2400⟩]
  | .declined => [⟨32, 6400⟩]
  | .expired => [⟨16, 1600⟩, ⟨0, 1600⟩, ⟨16, 1600⟩, ⟨0, 1600⟩, ⟨16, 1600⟩]

/-- The frames of a tone (R176). -/
def toneFrames (t : Tone) : Nat := ((toneSegments t).map (·.frames)).sum

/-- Sample `i` of a segment: +8,192 for the first half of each period, -8,192 for the second, 0 in a gap. -/
def segmentSample (g : ToneSegment) (i : Nat) : Int :=
  if g.half = 0 then 0 else if i / g.half % 2 = 0 then 8192 else -8192

/-- Sample `i` of a run of segments. -/
def segmentsSample : List ToneSegment → Nat → Int
  | [], _ => 0
  | g :: gs, i => if i < g.frames then segmentSample g i else segmentsSample gs (i - g.frames)

/-- Sample `i` of a tone. -/
def toneSample (t : Tone) (i : Nat) : Int := segmentsSample (toneSegments t) i

/-- What becomes of a tone request (R177). -/
inductive ToneOutcome where
  | started
  | queued
  | merged
  | dropped
  deriving DecidableEq, Repr

/-- How a speaker's queue handles a request (R177). -/
def Speaker.outcome (x : Speaker) (t : Tone) : ToneOutcome :=
  if x.playing.isNone then .started
  else if x.waiting.contains t then .merged
  else if x.waiting.length < Config.tonePlaces then .queued
  else .dropped

/-- A speaker's queue after a request (R177). -/
def Speaker.take (x : Speaker) (t : Tone) : Speaker :=
  match x.outcome t with
  | .started => { x with playing := some { tone := t, given := 0 } }
  | .merged => x
  | .queued => { x with waiting := x.waiting ++ [t] }
  | .dropped => { x with drops := satAdd max16 x.drops 1 }

/-- Request a tone on a speaker; the gates are settled by the caller. -/
def State.requestTone (s : State) (side : CodecSide) (t : Tone) : State :=
  { s with intercom := { s.intercom with
      speakers := s.intercom.speakers.set side ((s.intercom.speakers.get side).take t) } }

/-- The end of a tone: the oldest waiting tone starts, or the speaker becomes idle (R178). -/
def Speaker.endTone (x : Speaker) : Speaker :=
  match x.waiting with
  | [] => { x with playing := none }
  | t :: rest => { x with playing := some { tone := t, given := 0 }, waiting := rest }

/-! ## Shift counters (R129) and the counting of a trip (R131, R144) -/

/-- Change the counters by the gains of one event, which count only while the shift is OPEN (R129). -/
def Shift.gain (u : Shift) (f : Counters → Counters) : Shift :=
  if u.state = .opened then { u with counters := f u.counters } else u

/-- Whether a money counter is at its limit (R129). -/
def Counters.atLimit (c : Counters) : Bool :=
  decide (shiftMoneyMax ≤ c.fareTotal) || decide (shiftMoneyMax ≤ c.surcharges) || decide (shiftMoneyMax ≤ c.passThroughs) ||
  decide (shiftMoneyMax ≤ c.tips) || decide (shiftMoneyMax ≤ c.cash) || decide (shiftMoneyMax ≤ c.cardOnline) ||
  decide (shiftMoneyMax ≤ c.cardOffline)

/-- The amounts of the extras of one class. -/
def classTotal (c : ExtraClass) (l : List Extra) : Nat := ((l.filter (fun e => e.cls = c)).map (·.amount)).sum

/-- The applied amounts of the CASH tenders. -/
def Tender.cashApplied : Tender → Nat
  | .cash a => a
  | _ => 0

/-- The applied amounts of the CARD_ONLINE tenders. -/
def Tender.onlineApplied : Tender → Nat
  | .cardOnline a _ _ _ => a
  | _ => 0

/-- Whether a tender carries the over-allowance flag. -/
def Tender.beyond : Tender → Bool
  | .cardOffline _ _ _ _ beyond => beyond
  | _ => false

/-- The counters with a trip counted (R131). -/
def Counters.addTrip (c : Counters) (e : TripEntry) : Counters :=
  { c with
    trips := satAdd max32 c.trips 1
    shared := satAdd max32 c.shared (if 2 ≤ e.mostConcurrent then 1 else 0)
    fareTotal := satAdd shiftMoneyMax c.fareTotal e.fare
    surcharges := satAdd shiftMoneyMax c.surcharges (classTotal .surcharge e.extras)
    passThroughs := satAdd shiftMoneyMax c.passThroughs (classTotal .passThrough e.extras)
    tips := satAdd shiftMoneyMax c.tips e.tip
    cash := satAdd shiftMoneyMax c.cash (e.tenders.map Tender.cashApplied).sum
    cardOnline := satAdd shiftMoneyMax c.cardOnline (e.tenders.map Tender.onlineApplied).sum
    cardOffline := satAdd shiftMoneyMax c.cardOffline (e.tenders.map Tender.offlineApplied).sum
    overAllowance := satAdd max32 c.overAllowance (e.tenders.countP Tender.beyond) }

/-- The lifetime totalizers with a trip counted (R144). -/
def Totals.addTrip (t : Totals) (e : TripEntry) : Totals :=
  { t with trips := satAdd max32 t.trips 1, fares := satAdd max32 t.fares e.fare }

/-- Count a trip in the shift counters, the limit-reached flag and the totalizers (R131, R129, R144). -/
def Shift.countTrip (u : Shift) (e : TripEntry) : Shift :=
  let v := u.gain (fun c => c.addTrip e)
  { v with limitReached := v.limitReached || (decide (v.state = .opened) && v.counters.atLimit)
           totals := v.totals.addTrip e }

/-! ## Journal (R113) -/

/-- Queue an entry in the first free place, or let it wait where all four are taken (R113). -/
def RecordStore.append (j : RecordStore) (b : EntryBody) : RecordStore :=
  if j.places.length < Config.appendPlaces then { j with places := j.places ++ [b] }
  else { j with waiting := j.waiting ++ [b] }

/-- The TRIP entry of a frozen record (R111). -/
def tripEntry (k : Nat) (i : Fin 4) (p : Party) : TripEntry :=
  { hire := p.hire, slot := i, startTime := p.startTime.clock, stopTime := (p.stopTime.map (·.clock)).getD 0
    clockInvalid := p.startTime.invalid || (p.stopTime.map (·.invalid)).getD false
    zoneAtStart := p.zoneAtStart, first := p.first, last := p.current, switches := p.switches
    distance := p.metres k, chargedTime := p.seconds, steps := p.steps, fare := p.fare, extras := p.extras, tip := p.tip
    tenders := p.tenders, mostConcurrent := p.mostConcurrent, saturated := p.saturated, extraDropped := p.extraDropped
    powerInterrupted := p.powerInterrupted, lateApproval := p.lateApproval, excessCharged := p.excessCharged }

/-- The shift report of the record, with the given rate and close time (R138). -/
def Shift.report (u : Shift) (number k rate : Nat) (close : Option Stamp) : ShiftReport :=
  { number := number, driver := u.driver.getD 0, openTime := u.openTime.getD { clock := 0, invalid := false }
    closeTime := close, counters := u.counters, limitReached := u.limitReached, k := k, rate := rate }

/-! ## Parties and tenders (R78, R84) -/

/-- Move a party to CLOSING: its record is frozen and its TRIP entry queued (R78). -/
def State.enterClosing (s : State) (i : Fin 4) (p : Party) : State :=
  let frozen : Party := { p with state := .closing, payment := none }
  { s.setParty i (some frozen) with journal := s.journal.append (.trip (tripEntry s.meas.cal.k i frozen)) }

/-- Append a tender to a party's list; the party enters CLOSING where nothing remains, and is STOPPED otherwise
(R84, steps 3 and 4). -/
def State.applyTender (s : State) (i : Fin 4) (p : Party) (t : Tender) : State :=
  let paid : Party := { p with tenders := p.tenders ++ [t] }
  if paid.remaining = 0 then s.enterClosing i paid
  else s.setParty i (some { paid with state := .stopped, payment := none })

/-! ## Payment sessions (R93, R96) -/

/-- Append an item to the recent-session list; the oldest leaves a full list (R87). -/
def pushRecent (l : List RecentSession) (x : RecentSession) : List RecentSession :=
  if Config.recentPlaces ≤ l.length then l.tail ++ [x] else l ++ [x]

/-- Start the PIN guard timer with the full guard time (R93). -/
def Payment.startGuard (y : Payment) : Payment := { y with guardTimer := some (y.guardTime * 100) }

/-- The payment unit after the close of a session: NONE, the recent-session list with its item, and a PIN entry in
progress ended (R96). -/
def Payment.close (y : Payment) (x : Session) (cause : CloseCause) : Payment :=
  { (if x.pinEntry then y.startGuard else y) with
    session := none
    recent := pushRecent y.recent { payment := x.payment, slot := x.slot, hire := x.hire, cause := cause } }

/-- Return the party of a closed session to STOPPED, its payment number absent (R96). -/
def State.releaseParty (s : State) (i : Fin 4) : State :=
  match s.party i with
  | some p => s.setParty i (some { p with state := .stopped, payment := none })
  | none => s

/-! ## Tariff switch (R51) -/

/-- A tariff switch: progress is lost and the switch counted. -/
def Party.switchTariff (p : Party) (t : TariffNo) : Party :=
  { p with current := t, progress := 0, switches := satAdd max16 p.switches 1 }

/-- Select the party's tariff afresh; another result is a tariff switch (R50, R72). -/
def Party.reselect (p : Party) (store : TariffStore) : Party :=
  if store.selectTariff p.pin = p.current then p else p.switchTariff (store.selectTariff p.pin)

end Sys2Proof.Machine
end

