-- ==== Sys2Proof/Machine/Audio.lean ====
section
/-! DEFINITION. Chapter 9: path gain, intercom mode and mutes, the talk keys and the floor, tones, codec frames. -/

namespace Sys2Proof.Machine

/-- Change the intercom unit. -/
def State.setIntercom (s : State) (c : Intercom) : State := { s with intercom := c }

/-! ## SET_PATH_GAIN (R162) -/

/-- Whether a release delay is one of the four (R162). -/
def releaseOk (delay : Nat) : Bool := decide (delay = 0) || decide (delay = 100) || decide (delay = 200) || decide (delay = 300)

/-- R162: the gain and release delay of one path. -/
def setPathGain (path : Byte) (gain delay : Nat) (s : State) : Answer :=
  match pathOf path with
  | none => refuse s .range
  | some a =>
    if 1023 < gain ∨ releaseOk delay = false then refuse s .range
    else
      let l := s.intercom.paths.get a
      { state := s.setIntercom { s.intercom with
          paths := s.intercom.paths.set a { l with gain := gain, release := delay } }
        status := .ok, results := u16 l.gain ++ u16 l.release ++ u16 gain ++ u16 delay }

/-- SET_PATH_GAIN (R162). -/
def execSetPathGain (p : Port) (path : Byte) (gain delay : BitVec 16) (s : State) : Result :=
  request p .setPathGain (setPathGain path gain.toNat delay.toNat) s

/-! ## SET_INTERCOM_MODE, SET_INTERCOM_MUTE, SET_TALK_OVERRIDE (R167, R168, R172) -/

/-- The floor state after leaving HALF_DUPLEX (R167). -/
def Intercom.dropFloor (c : Intercom) : Intercom := { c with floor := none, claimant := none, floorTimer := none }

/-- The intercom unit in another mode (R167). -/
def Intercom.enterMode (c : Intercom) (m : IntercomMode) : Intercom :=
  if c.mode = .halfDuplex then { c.dropFloor with mode := m } else { c with mode := m }

/-- R167: another mode; the floor is dropped on leaving HALF_DUPLEX, and TALK_FLOOR raised where it was held. -/
def setIntercomMode (mode : Byte) (s : State) : Answer :=
  match modeOf mode with
  | none => refuse s .range
  | some m =>
    { state := if m = s.intercom.mode then s
               else ((s.setIntercom (s.intercom.enterMode m)).raiseIf
                 (decide (s.intercom.mode = .halfDuplex) && s.intercom.floor.isSome) .talkFloor).settleGates
      status := .ok, results := u8 (modeCode s.intercom.mode) ++ u8 (modeCode m) }

/-- SET_INTERCOM_MODE (R167). -/
def execSetIntercomMode (p : Port) (mode : Byte) (s : State) : Result :=
  request p .setIntercomMode (setIntercomMode mode) s

/-- R168: both settings. -/
def setIntercomMute (mute privacy : Byte) (s : State) : Answer :=
  match flagOf mute, flagOf privacy with
  | some m, some v =>
    { state := (s.setIntercom { s.intercom with driverMute := m, privacy := v }).settleGates
      status := .ok, results := yesNo m ++ yesNo v }
  | _, _ => refuse s .range

/-- SET_INTERCOM_MUTE (R168). -/
def execSetIntercomMute (p : Port) (mute privacy : Byte) (s : State) : Result :=
  request p .setIntercomMute (setIntercomMute mute privacy) s

/-- R172: the driver override. -/
def setTalkOverride (value : Byte) (s : State) : Answer :=
  match flagOf value with
  | none => refuse s .range
  | some v => { state := s.setIntercom { s.intercom with override := v }, status := .ok, results := [] }

/-- SET_TALK_OVERRIDE (R172). -/
def execSetTalkOverride (p : Port) (value : Byte) (s : State) : Result :=
  request p .setTalkOverride (setTalkOverride value) s

/-! ## The talk keys and the floor (R169 to R175) -/

/-- The floor granted to a side, with a claimant or none; the floor timer starts with 60 s (R170). -/
def Intercom.grant (c : Intercom) (side : TalkSide) (claimant : Option TalkSide) : Intercom :=
  { c with floor := some side, claimant := claimant, floorTimer := some Config.floorMs }

/-- The intercom unit with a key pressed or released: its debounced state and its input are at that level (R169). -/
def Intercom.setKey (c : Intercom) (side : TalkSide) (pressed : Bool) : Intercom :=
  { c with keys := c.keys.set side pressed, keyPins := c.keyPins.set side ((c.keyPins.get side).at pressed) }

/-- The claimant that an override leaves: the rear, if its key is pressed (R172). -/
def Intercom.overridden (c : Intercom) : Option TalkSide := if c.keys.rear then some .rear else none

/-- The floor after a press in HALF_DUPLEX, and whether it changes (R170, R172). -/
def Intercom.press (c : Intercom) (side : TalkSide) : Intercom × Bool :=
  match c.floor with
  | none => (c.grant side none, true)
  | some holder =>
    if holder = side then (c, false)
    else if side = .driver ∧ c.override = true then (c.grant .driver c.overridden, true)
    else ({ c with claimant := some side }, false)

/-- R169, R170, R172, R175: a press of a released key. In HALF_DUPLEX it moves the floor or claims it; in CLOSED a rear
press is a rear call. -/
def talkKeyPress (side : TalkSide) (s : State) : State :=
  if s.intercom.keys.get side then s
  else
    let c := s.intercom.setKey side true
    match c.mode with
    | .fullDuplex => s.setIntercom c
    | .halfDuplex => ((s.setIntercom (c.press side).1).raiseIf (c.press side).2 .talkFloor).settleGates
    | .closed =>
      if side = .rear then (((s.setIntercom c).requestTone .front .call).raise .rearCall).settleGates else s.setIntercom c

/-- TALK_KEY_PRESS (R170). -/
def execTalkKeyPress (side : TalkSide) (s : State) : Result := event (talkKeyPress side) s

/-- The claimant whose key is pressed (R171). -/
def Intercom.heir (c : Intercom) : Option TalkSide :=
  match c.claimant with
  | some side => if c.keys.get side then some side else none
  | none => none

/-- The floor released: granted to a pending claimant whose key is pressed, or NONE; the claimant is cleared (R171). -/
def Intercom.release (c : Intercom) : Intercom :=
  match c.heir with
  | some side => c.grant side none
  | none => c.dropFloor

/-- R171: a release of a pressed key; the holder's release releases the floor. -/
def talkKeyRelease (side : TalkSide) (s : State) : State :=
  if s.intercom.keys.get side then
    let c := s.intercom.setKey side false
    if c.floor = some side then ((s.setIntercom c.release).raise .talkFloor).settleGates else s.setIntercom c
  else s

/-- TALK_KEY_RELEASE (R171). -/
def execTalkKeyRelease (side : TalkSide) (s : State) : Result := event (talkKeyRelease side) s

/-- R169: a key's input has been at another level for 30 ms without interruption, and the press or release is taken. -/
def keyDebounced (side : TalkSide) (s : State) : State :=
  let x := s.intercom.keyPins.get side
  if Config.keyDebounceMs ≤ x.stable then if x.level then talkKeyPress side s else talkKeyRelease side s else s

/-- R173: the floor timer has run out, and the floor is released (log 5). -/
def floorTimerExpiry (s : State) : State :=
  if s.intercom.floorTimer = some 0 then ((s.setIntercom s.intercom.release).raise .talkFloor).settleGates else s

/-- FLOOR_TIMER_EXPIRY (R173). -/
def execFloorTimerExpiry (s : State) : Result := event floorTimerExpiry s

/-! ## The release timers (R165) -/

/-- A RELEASING gate passes once its release timer has run out (R165, log 5). -/
def AudioLine.pass (l : AudioLine) : AudioLine :=
  match l.gate with
  | .releasing 0 => { l with gate := .passing }
  | _ => l

/-- R165: the release timer of a path's gate expires. -/
def releaseTimerExpiry (path : AudioPath) (s : State) : State :=
  s.setIntercom { s.intercom with paths := s.intercom.paths.set path (s.intercom.paths.get path).pass }

/-- RELEASE_TIMER_EXPIRY (R165). -/
def execReleaseTimerExpiry (path : AudioPath) (s : State) : Result := event (releaseTimerExpiry path) s

/-! ## PLAY_TONE (R180) -/

/-- R180: the tone is requested, and the reply gives the outcome. DEDUCED: the OK reply (outcome, tones waiting) and the
FULL reply (drop counter) are two replies without a presence field (log 35), their items in the rule's order (log 15). -/
def playTone (tone speaker : Byte) (s : State) : Answer :=
  match toneOf tone, speakerOf speaker with
  | some t, some side =>
    let x := s.intercom.speakers.get side
    let y := x.take t
    let done := (s.requestTone side t).settleGates
    match x.outcome t with
    | .started => { state := done, status := .ok, results := u8 0 ++ u8 y.waiting.length }
    | .queued => { state := done, status := .ok, results := u8 1 ++ u8 y.waiting.length }
    | .merged => { state := done, status := .ok, results := u8 2 ++ u8 y.waiting.length }
    | .dropped => { state := done, status := .full, results := u16 y.drops }
  | _, _ => refuse s .range

/-- PLAY_TONE (R180). -/
def execPlayTone (p : Port) (tone speaker : Byte) (s : State) : Result := request p .playTone (playTone tone speaker) s

/-! ## Codec frames (R159, R160, R162, R166, R176, R178) -/

/-- A sample held within 16 bits (R162). -/
def clampSample (x : Int) : Int := max (-32768) (min 32767 x)

/-- A source sample scaled by a gain in units of 1/256, rounded toward minus infinity after the half is added (R162). -/
def scaleSample (gain : Nat) (x : Int) : Int := clampSample ((x * gain + 128) / 256)

/-- The path's sample for a frame of its far port: 0 without a source sample since the frame before (R159). -/
def AudioLine.sample (l : AudioLine) : Int :=
  match l.held with
  | some x => scaleSample l.gain x
  | none => 0

/-- The speaker sample of a frame (R166): a playing tone's sample, else the path's through a PASSING gate, else 0. -/
def speakerSample (x : Speaker) (l : AudioLine) : Int :=
  match x.playing with
  | some y => toneSample y.tone y.given
  | none => if l.gate = .passing then l.sample else 0

/-- Whether the frame gives a playing tone its last sample (R178). -/
def Speaker.lastFrame (x : Speaker) : Bool :=
  match x.playing with
  | some y => decide (toneFrames y.tone ≤ y.given + 1)
  | none => false

/-- A playing tone one frame on, or ended (R176, R178). -/
def Speaker.advance (x : Speaker) : Speaker :=
  if x.lastFrame then x.endTone
  else
    match x.playing with
    | some y => { x with playing := some { y with given := y.given + 1 } }
    | none => x

/-- The speaker after a frame: the sample it was given, and its tone one frame on. -/
def Speaker.frame (x : Speaker) (l : AudioLine) : Speaker := { x.advance with output := speakerSample x l }

/-- A codec port's monitor after a frame (R160). -/
def Codec.frame (c : Codec) : Codec := { c with frames := satAdd max16 c.frames 1 }

/-- The intercom unit after a frame of a codec port: the frame counted, the microphone sample held for the path that
leaves the port, the held sample of the arriving path used and discarded, the speaker given its sample. -/
def Intercom.frame (c : Intercom) (side : CodecSide) (mic : BitVec 16) : Intercom :=
  { c with
    codecs := c.codecs.set side (c.codecs.get side).frame
    paths := (c.paths.set (pathFrom side) { (c.paths.get (pathFrom side)) with held := some mic.toInt }).set (pathTo side)
      { (c.paths.get (pathTo side)) with held := none }
    speakers := c.speakers.set side ((c.speakers.get side).frame (c.paths.get (pathTo side))) }

/-- A codec frame; where a tone gives its last sample, the TONE factor and the gates follow in the same update (R178). -/
def codecFrame (side : CodecSide) (mic : BitVec 16) (s : State) : State :=
  if (s.intercom.speakers.get side).lastFrame then (s.setIntercom (s.intercom.frame side mic)).settleGates
  else s.setIntercom (s.intercom.frame side mic)

/-- CODEC_FRAME (R166). -/
def execCodecFrame (side : CodecSide) (mic : BitVec 16) (s : State) : Result := event (codecFrame side mic) s

/-- R178: the codec frame at which a tone gives its last sample; at any other moment no tone ends (log 6). -/
def toneEnd (side : CodecSide) (mic : BitVec 16) (s : State) : State :=
  if (s.intercom.speakers.get side).lastFrame then codecFrame side mic s else s

/-- TONE_END (R178). -/
def execToneEnd (side : CodecSide) (mic : BitVec 16) (s : State) : Result := event (toneEnd side mic) s

/-! ## READ_INTERCOM (R181) -/

/-- A codec port's items. -/
def codecBytes (c : Codec) : List Byte := yesNo c.fault ++ u8 c.badRun ++ u8 c.goodRun ++ u16 c.lastFrames

/-- A path's items. -/
def pathBytes (l : AudioLine) (f : Factors) : List Byte := u16 l.gain ++ u16 l.release ++ u8 (gateCode l.gate) ++ u8 f.code

/-- The release time remaining of a gate in RELEASING. -/
def Gate.left : Gate → Option Nat
  | .releasing n => some n
  | _ => none

/-- A speaker's items. -/
def speakerBytes (x : Speaker) : List Byte :=
  u8 ((x.playing.map (fun y => toneCode y.tone)).getD 0) ++ u16 ((x.playing.map (·.given)).getD 0) ++
  counted (fun t => u8 (toneCode t)) x.waiting ++ u16 x.drops

/-- The items of R181's table. DEDUCED (log 33): an idle speaker's tone and frames are zeros, with presence bits of their
own, and the driver's talk key stands before the rear one. -/
def intercomResults (s : State) : List Byte :=
  let c := s.intercom
  let a := c.paths.frontToRear
  let b := c.paths.rearToFront
  presence [a.gate.left.isSome, b.gate.left.isSome, c.floorTimer.isSome, c.speakers.front.playing.isSome,
    c.speakers.front.playing.isSome, c.speakers.rear.playing.isSome, c.speakers.rear.playing.isSome] ++
  u8 (modeCode c.mode) ++ yesNo c.override ++ yesNo c.driverMute ++ yesNo c.privacy ++
  codecBytes c.codecs.front ++ codecBytes c.codecs.rear ++
  pathBytes a (s.factors .frontToRear) ++ pathBytes b (s.factors .rearToFront) ++
  u16 (a.gate.left.getD 0) ++ u16 (b.gate.left.getD 0) ++ yesNo c.keys.driver ++ yesNo c.keys.rear ++
  u8 (floorCode c.floor) ++ u8 (floorCode c.claimant) ++ u16 (timerValue c.floorTimer) ++
  speakerBytes c.speakers.front ++ speakerBytes c.speakers.rear

/-- READ_INTERCOM (R181). -/
def execReadIntercom (p : Port) (s : State) : Result :=
  request p .readIntercom (fun s => { state := s, status := .ok, results := intercomResults s }) s

end Sys2Proof.Machine
end

