-- ==== Sys2Proof/Machine/Closure.lean ====
section
/-! DEFINITION. The window closure: the window result (chapter 1), the charging of the running parties (chapter 3), the
shift's pulses and the metre carry (chapter 7), the activation of an armed set (chapter 2), the lamp samples (chapter 8)
and the rate monitors (chapter 9). -/

namespace Sys2Proof.Machine

/-! ## The window result (R2 to R5) -/

/-- The charged count p (R3). -/
def Measurement.charged (m : Measurement) : Nat := min m.raw m.cal.ceiling

/-- The excess count (R3). -/
def Measurement.excess (m : Measurement) : Nat := m.raw - m.cal.ceiling

/-- The window speed v_w, rounded half up and held at 9,999 (R4). -/
def windowSpeed (k p : Nat) : Nat := min 9999 ((p * 360000 + k / 2) / k)

/-- The smoothed speed v (R5). -/
def smoothedSpeed (vw vprev : Nat) : Nat := (vw + vprev + 1) / 2

/-- The window result formed at a closure (R6). -/
def Measurement.result (m : Measurement) : WindowResult :=
  { charged := m.charged, excess := m.excess, windowSpeed := windowSpeed m.cal.k m.charged
    smoothed := smoothedSpeed (windowSpeed m.cal.k m.charged) m.last.windowSpeed }

/-- The measurement unit after a closure (R2). -/
def Measurement.close (m : Measurement) : Measurement :=
  { m with raw := 0, closure := (m.closure + 1) % 4294967296, last := m.result }

/-! ## Charging (R41 to R48) -/

/-- The share weight f_n for n parties charged together (R43). -/
def Tariff.weight (t : Tariff) (n : Nat) : Nat :=
  match n with
  | 1 => t.f1
  | 2 => t.f2
  | 3 => t.f3
  | _ => t.f4

/-- The distance threshold Td (R44). -/
def Tariff.td (t : Tariff) (k : Nat) : Nat := t.distanceStep * k

/-- The time threshold Tt (R44). -/
def Tariff.tt (t : Tariff) : Nat := t.timeStep * 1000

/-- The progress threshold S (R44). -/
def Tariff.threshold (t : Tariff) (k : Nat) : Nat := t.td k * t.tt * 256

/-- The distance contribution dc (R45). -/
def Tariff.distanceGain (t : Tariff) (p n : Nat) : Nat := 1000 * p * t.tt * t.weight n

/-- The time contribution tc (R45). -/
def Tariff.timeGain (t : Tariff) (k n : Nat) : Nat := 100 * t.td k * t.weight n

/-- The contribution c of a window (R45). -/
def Tariff.contribution (t : Tariff) (k p n : Nat) : Nat :=
  match t.mode with
  | .single => max (t.distanceGain p n) (t.timeGain k n)
  | .double => t.distanceGain p n + t.timeGain k n

/-- A party with `q` steps completed on step amount `a` (R47). -/
def Party.complete (x : Party) (q a : Nat) : Party :=
  { x with
    steps := satAdd max32 x.steps q
    prepaid := x.prepaid - min q x.prepaid
    fare := min moneyMax (x.fare + (q - min q x.prepaid) * a)
    saturated := x.saturated || decide (moneyMax < x.fare + (q - min q x.prepaid) * a) }

/-- A party charged for a window on tariff record `t`, with `n` parties charged together (R43 to R48). -/
def Party.charge (x : Party) (t : Tariff) (k p n : Nat) : Party :=
  let sum := x.progress + t.contribution k p n
  { x.complete (sum / t.threshold k) t.stepAmount with
    progress := sum % t.threshold k
    pulses := satAdd max32 x.pulses p
    windows := satAdd max32 x.windows 1
    mostConcurrent := max x.mostConcurrent n }

/-- A running party's charge at a closure; a joining party is not charged and its flag is cleared (R42). -/
def Party.metered (x : Party) (store : TariffStore) (k p n : Nat) : Party :=
  if x.joining then { x with joining := false } else x.charge (store.active.record x.current) k p n

/-- The bit of rule number `r` in a charged-rule set (R53). -/
def ruleBit (r : Nat) : BitVec 16 := 1#16 <<< (r - 1)

/-- A party charged the entry extra of rule `r`, or its drop noted where the extras list is full (R52). -/
def Party.enter (x : Party) (r : Nat) (e : Extra) : Party :=
  if x.extras.length < Config.extrasPlaces then
    { x with extras := x.extras ++ [e], chargedRules := x.chargedRules ||| ruleBit r }
  else { x with extraDropped := true, chargedRules := x.chargedRules ||| ruleBit r }

/-- The entry extra that the matching rule carries, with the rule's number; the commit has made its kind present
(R25, R52, log 26). -/
def TariffStore.entryExtra (t : TariffStore) : Option (Nat × Extra) :=
  match t.matchingRule with
  | none => none
  | some (r, rule) =>
    match rule.entryExtra with
    | none => none
    | some kind => (t.active.extraKinds[kind]).map (fun k => (r, { kind := kind, cls := k.cls, amount := k.amount }))

/-- The zone-entry extra of a closure (R52). -/
def Party.zoneEntry (x : Party) (store : TariffStore) : Party :=
  match store.entryExtra with
  | none => x
  | some (r, e) => if x.chargedRules &&& ruleBit r = 0 then x.enter r e else x

/-- A party after a closure: a RUNNING party is charged or joins, is re-selected and charged a zone entry; any other is
not worked on (R41). -/
def Party.atClosure (store : TariffStore) (k p n : Nat) (x : Party) : Party :=
  if x.state = .running then ((x.metered store k p n).reselect store).zoneEntry store else x

/-- Whether a closure charges a slot's party (R43). -/
def isCharged : Option Party → Bool
  | some x => decide (x.state = .running) && !x.joining
  | none => false

/-- The share count n (R43). -/
def State.shareCount (s : State) : Nat := s.slotList.countP isCharged

/-! ## Pulses and metres (R130, R143) -/

/-- The metres carried from a remainder that gains 1000 p (R143). -/
def carriedMetres (rem k p : Nat) : Nat := (rem + 1000 * p) / k

/-- The remainder after the carry (R143). -/
def carriedRemainder (rem k p : Nat) : Nat := rem + 1000 * p - carriedMetres rem k p * k

/-- The totalizers after a closure (R143): both remainders are carried, so that each is below K after it; the hired one
gains the pulses of a closure that charged a party (log 28). -/
def Totals.carry (t : Totals) (k p : Nat) (hired : Bool) : Totals :=
  let h := if hired then p else 0
  { t with
    distance := satAdd max32 t.distance (carriedMetres t.totalRemainder k p)
    totalRemainder := carriedRemainder t.totalRemainder k p
    hiredDistance := satAdd max32 t.hiredDistance (carriedMetres t.hiredRemainder k h)
    hiredRemainder := carriedRemainder t.hiredRemainder k h }

/-- The counters' gains at a closure: pulses (R130), an overrun window with its excess (R3), lamp-fault onsets (R156). -/
def Counters.atClosure (c : Counters) (p excess : Nat) (hired : Bool) (onsets : Nat) : Counters :=
  { c with
    totalPulses := satAdd max32 c.totalPulses p
    hiredPulses := satAdd max32 c.hiredPulses (if hired then p else 0)
    overruns := satAdd max32 c.overruns (if 0 < excess then 1 else 0)
    excessPulses := satAdd max32 c.excessPulses excess
    lampFaults := satAdd max32 c.lampFaults onsets }

/-! ## Lamp samples (R155, R156) -/

/-- A channel's lamp after a sample: `lit` says whether it is in its on phase, `present` whether current flows. -/
def Lamp.sample (l : Lamp) (lit present : Bool) : Lamp :=
  if lit then
    if present then { l with dark := 0 }
    else { l with dark := satAdd 3 l.dark 1, latch := l.latch || decide (2 ≤ l.dark) }
  else l

/-- Whether a sample latches a fault (R156). -/
def Lamp.onset (l : Lamp) (lit present : Bool) : Bool := lit && !present && !l.latch && decide (2 ≤ l.dark)

/-- The sign unit after a closure: the samples, and the period and level in use (R149, R155). -/
def Sign.close (g : Sign) (period : Period) (sense : LampSense) : Sign :=
  { g with
    period := period
    level := g.levelFor period
    lamps := mapVectorIdx (fun i l => l.sample (g.channelLit i l) (senseAt sense i)) g.lamps
    sense := sense }

/-- The number of faults that a closure latches. -/
def Sign.onsets (g : Sign) (sense : LampSense) : Nat :=
  ((mapVectorIdx (fun i l => l.onset (g.channelLit i l) (senseAt sense i)) g.lamps).toArray.toList).countP id

/-! ## Rate monitors (R160) -/

/-- Whether a window of that many frames is good. -/
def goodWindow (frames : Nat) : Bool := decide (1584 ≤ frames) && decide (frames ≤ 1616)

/-- The fault and the run counts after a window is classified. -/
def Codec.classify (c : Codec) : Codec :=
  if c.fault then
    if goodWindow c.frames then
      if 2 ≤ c.goodRun + 1 then { c with fault := false, goodRun := 0 } else { c with goodRun := c.goodRun + 1 }
    else { c with goodRun := 0 }
  else
    if goodWindow c.frames then { c with badRun := 0 }
    else if 2 ≤ c.badRun + 1 then { c with fault := true, badRun := 0 }
    else { c with badRun := c.badRun + 1 }

/-- A codec port's monitor after a closure. -/
def Codec.close (c : Codec) : Codec := { c.classify with lastFrames := c.frames, frames := 0 }

/-! ## Activation of an armed set (R26) -/

/-- The activation conditions. -/
def State.mayActivate (s : State) : Bool :=
  decide (s.nonVacant = 0) && decide ((if s.shift.state = .opened then 2 else 1) ≤ s.journal.free) && s.journal.placeFree

/-- An armed set whose conditions hold becomes ACTIVATING, its TARIFF entry queued. -/
def State.tryActivate (s : State) : State :=
  match s.store.stage with
  | .armed v =>
    if s.mayActivate then
      { s with store := { s.store with stage := .activating v }
               journal := s.journal.append (.tariff s.store.activeVersion v) }
    else s
  | _ => s

/-! ## The closure -/

/-- The part after the work of a closure, before the gates follow the rate faults: every block works on the same window
result (R6). -/
def State.closed (s : State) (sense : LampSense) : State :=
  let p := s.meas.charged
  let n := s.shareCount
  let k := s.meas.cal.k
  let u := s.shift.gain (fun c => c.atClosure p s.meas.excess (decide (1 ≤ n)) (s.sign.onsets sense))
  { s with
    meas := s.meas.close
    table := { s.table with slots := mapVector (fun x => x.map (Party.atClosure s.store k p n)) s.table.slots }
    shift := { u with totals := u.totals.carry k p (decide (1 ≤ n)) }
    sign := s.sign.close s.store.period sense
    intercom := { s.intercom with codecs := ⟨s.intercom.codecs.front.close, s.intercom.codecs.rear.close⟩ } }

/-- R2: a window closes, and every block does its closure work. -/
def windowClose (sense : LampSense) (s : State) : State :=
  ((s.closed sense).tryActivate.raiseIf (decide (0 < s.meas.excess)) .sensorOverrun).settleGates

/-- WINDOW_CLOSE (R2). -/
def execWindowClose (sense : LampSense) (s : State) : Result := event (windowClose sense) s

end Sys2Proof.Machine
end

