-- ==== Sys2Proof/Machine/Hires.lean ====
section
/-! DEFINITION. Chapter 4: the hire requests, the reading of the party table, duty, on call and the seat limit. -/

namespace Sys2Proof.Machine

/-- The screening of a slot (R62, checks 2 to 4): the refusal, or the party, which is then RUNNING or STOPPED. -/
def State.screen (s : State) (i : Fin 4) : Except Status Party :=
  match s.party i with
  | none => .error .unknown
  | some p =>
    match p.state with
    | .closing => .error .busy
    | .paying => .error .locked
    | _ => .ok p

/-! ## START_HIRE (R65 to R67) -/

/-- The vacant slot with the lowest number (R66). -/
def State.lowestVacant (s : State) : Option (Fin 4) :=
  if (s.party 0).isNone then some 0
  else if (s.party 1).isNone then some 1
  else if (s.party 2).isNone then some 2
  else if (s.party 3).isNone then some 3
  else none

/-- The record of a new hire (R56, R66). -/
def newParty (store : TariffStore) (hire : Nat) (pin : Option TariffNo) : Party :=
  let t := store.selectTariff pin
  { state := .running, hire := hire, startTime := store.now, stopTime := none
    zoneAtStart := if store.zone.known then store.zone.lastCode else none
    current := t, first := t, pin := pin, joining := true, progress := 0
    prepaid := (store.active.record t).prepaid, steps := 0, fare := (store.active.record t).flagFall
    pulses := 0, windows := 0, mostConcurrent := 1, switches := 0, extras := [], chargedRules := 0, tip := 0, tenders := []
    saturated := false, extraDropped := false, powerInterrupted := false, lateApproval := false, excessCharged := false
    counted := false, payment := none }

/-- The hire number after `n`; number 4,294,967,295 is the last (R64). -/
def nextNumber (n : Nat) : Option Nat := if n < max32 then some (n + 1) else none

/-- The party table with a new hire in slot `i` (R64, R66, R67). -/
def PartyTable.enroll (t : PartyTable) (i : Fin 4) (p : Party) : PartyTable :=
  { t with slots := t.slots.set i (some p), nextHire := nextNumber p.hire, onCall := false }

/-- An accepted START_HIRE (R66, R67): the record, the next hire number, the on-call flag, a lamp test cancelled in the
update that derives the sign (what that leaves of a running modulation period is the model's reading, log 25), the notice
and the START tones. -/
def startHireTaken (s : State) (i : Fin 4) (hire : Nat) (pin : Option TariffNo) : State :=
  let s1 : State := { s with table := s.table.enroll i (newParty s.store hire pin) }
  let s2 := if s.sign.test.isSome then s1.cancelTest else s1.updateSign
  (((s2.raise .hireStarted).requestTone .front .start).requestTone .rear .start).settleGates

/-- The pinned tariff of START_HIRE: 0 where none is given (R203); none for a number out of range. -/
def startPin (pin : Byte) : Option (Option TariffNo) := if pin = 0 then some none else (numberOf pin).map some

/-- R65: the checks in their order. -/
def startHire (pin : Byte) (s : State) : Answer :=
  match startPin pin with
  | none => refuse s .range
  | some pinned =>
    if s.shift.state = .closing then refuse s .busy
    else if s.shift.state = .closed then refuse s .state
    else if s.table.offDuty then refuse s .state
    else if s.store.stage.isActivating then refuse s .busy
    else if s.table.seatLimit ≤ s.nonVacant then refuse s .full
    else if s.journal.free < s.nonVacant + 2 then refuse s .full
    else
      match s.table.nextHire, s.lowestVacant with
      | some hire, some i =>
        let p := newParty s.store hire pinned
        { state := startHireTaken s i hire pinned, status := .ok
          results := u8 i.val ++ u32 hire ++ u8 (p.current.val + 1) ++ u32 p.fare ++ u32 p.due }
      | _, _ => refuse s .full

/-- START_HIRE (R65). -/
def execStartHire (p : Port) (pin : Byte) (s : State) : Result := request p .startHire (startHire pin) s

/-! ## STOP_HIRE and RESUME_HIRE (R68, R69) -/

/-- A party stopped at a time (R68). -/
def Party.stop (p : Party) (t : Stamp) : Party := { p with state := .stopped, stopTime := some t }

/-- R68. -/
def stopHire (slot : Byte) (s : State) : Answer :=
  match slotOf slot with
  | none => refuse s .range
  | some i =>
    match s.screen i with
    | .error st => refuse s st
    | .ok p =>
      if p.state = .stopped then refuse s .state
      else if s.meas.moving then refuse s .moving
      else
        { state := ((s.setParty i (some (p.stop s.store.now))).raise .partyStopped).updateSign
          status := .ok, results := u32 p.fare ++ u32 (extrasTotal p.extras) ++ u32 p.tip ++ u32 p.due }

/-- STOP_HIRE (R68). -/
def execStopHire (p : Port) (slot : Byte) (s : State) : Result := request p .stopHire (stopHire slot) s

/-- R69. -/
def resumeHire (slot : Byte) (s : State) : Answer :=
  match slotOf slot with
  | none => refuse s .range
  | some i =>
    match s.screen i with
    | .error st => refuse s st
    | .ok p =>
      if p.state = .running then refuse s .state
      else if p.tenders ≠ [] then refuse s .state
      else
        { state := (s.setParty i (some { p with state := .running, joining := true })).updateSign
          status := .ok, results := [] }

/-- RESUME_HIRE (R69). -/
def execResumeHire (p : Port) (slot : Byte) (s : State) : Result := request p .resumeHire (resumeHire slot) s

/-! ## ADD_EXTRA (R70, R71) -/

/-- Whether an amount fits a kind: a variable kind needs 1 to 99,999, a fixed kind takes 0 (R70, check 4). -/
def ExtraKind.amountOk (k : ExtraKind) (amount : Nat) : Bool :=
  if k.amount = 0 then decide (1 ≤ amount) && decide (amount ≤ 99999) else decide (amount = 0)

/-- The item that ADD_EXTRA appends (R71). -/
def ExtraKind.item (k : ExtraKind) (n : KindNo) (amount : Nat) : Extra :=
  { kind := n, cls := k.cls, amount := if k.amount = 0 then amount else k.amount }

/-- A party with an extra appended (R71). -/
def Party.addExtra (p : Party) (e : Extra) : Party := { p with extras := p.extras ++ [e] }

/-- R70 from the screening on: checks 5 to 7, then R71. -/
def addExtraScreened (i : Fin 4) (e : Extra) (s : State) : Answer :=
  match s.screen i with
  | .error st => refuse s st
  | .ok p =>
    if p.state = .stopped ∧ p.tenders ≠ [] then refuse s .state
    else if Config.extrasPlaces ≤ p.extras.length then refuse s .full
    else
      { state := s.setParty i (some (p.addExtra e)), status := .ok
        results := u8 (p.addExtra e).extras.length ++ u32 (extrasTotal (p.addExtra e).extras) ++ u32 (p.addExtra e).due }

/-- R70: the checks in their order. -/
def addExtra (port : Port) (slot kind : Byte) (amount : Nat) (s : State) : Answer :=
  match slotOf slot, numberOf kind with
  | some i, some n =>
    match s.store.active.extraKinds[n] with
    | none => refuse s .range
    | some k =>
      if k.permitted.has port = false then refuse s .role
      else if k.amountOk amount = false then refuse s .range
      else addExtraScreened i (k.item n amount) s
  | _, _ => refuse s .range

/-- ADD_EXTRA (R70). -/
def execAddExtra (p : Port) (slot kind : Byte) (amount : BitVec 32) (s : State) : Result :=
  request p .addExtra (addExtra p slot kind amount.toNat) s

/-! ## PIN_TARIFF (R72) -/

/-- R72: the pin is set or cleared, and the tariff selected at once. DEDUCED (log 35): the pinned tariff is carried in every
reply, 0 on UNPIN, without a presence field. -/
def pinTariff (slot tariff : Byte) (s : State) : Answer :=
  match slotOf slot, startPin tariff with
  | some i, some pin =>
    match s.screen i with
    | .error st => refuse s st
    | .ok p =>
      let q := Party.reselect { p with pin := pin } s.store
      { state := s.setParty i (some q), status := .ok
        results := yesNo pin.isSome ++ u8 (numberCode pin) ++ u8 (q.current.val + 1) ++
          yesNo (decide (q.current ≠ p.current)) }
  | _, _ => refuse s .range

/-- PIN_TARIFF (R72). -/
def execPinTariff (p : Port) (slot tariff : Byte) (s : State) : Result := request p .pinTariff (pinTariff slot tariff) s

/-! ## Reading the table (R73, R74) -/

/-- R73. -/
def readParty (slot : Byte) (s : State) : Answer :=
  match slotOf slot with
  | none => refuse s .range
  | some i => { state := s, status := .ok, results := partyBytes s.meas.cal.k i.val (s.party i) }

/-- READ_PARTY (R73). -/
def execReadParty (p : Port) (slot : Byte) (s : State) : Result := request p .readParty (readParty slot) s

/-- A slot's items in LIST_PARTIES (R74). -/
def slotSummary : Option Party → List Byte
  | none => u8 0 ++ u32 0 ++ u32 0 ++ u32 0
  | some p => u8 (partyStateCode p.state) ++ u32 p.hire ++ u32 p.due ++ u32 p.remaining

/-- The reply of LIST_PARTIES (R74); three items of each slot are present for a non-vacant slot alone. -/
def listResults (s : State) : List Byte :=
  presence (s.slotList.flatMap (fun x => [x.isSome, x.isSome, x.isSome])) ++ s.slotList.flatMap slotSummary ++
  u8 s.table.seatLimit ++ u8 s.nonVacant ++ u32 (s.table.nextHire.getD 0) ++ yesNo s.table.offDuty ++ yesNo s.table.onCall

/-- LIST_PARTIES (R74). -/
def execListParties (p : Port) (s : State) : Result :=
  request p .listParties (fun s => { state := s, status := .ok, results := listResults s }) s

/-! ## Duty, on call and the seat limit (R75 to R77) -/

/-- R75: OFF (code 0) sets the off-duty flag and clears the on-call flag; ON (code 1) clears the off-duty flag. -/
def setDuty (value : Byte) (s : State) : Answer :=
  match flagOf value with
  | none => refuse s .range
  | some false =>
    { state := State.updateSign { s with table := { s.table with offDuty := true, onCall := false } }
      status := .ok, results := [] }
  | some true =>
    { state := State.updateSign { s with table := { s.table with offDuty := false } }, status := .ok, results := [] }

/-- SET_DUTY (R75). -/
def execSetDuty (p : Port) (value : Byte) (s : State) : Result := request p .setDuty (setDuty value) s

/-- R76: SET needs an OPEN shift and a driver on duty; CLEAR is always accepted. -/
def setOnCall (value : Byte) (s : State) : Answer :=
  match flagOf value with
  | none => refuse s .range
  | some true =>
    if s.shift.state ≠ .opened ∨ s.table.offDuty = true then refuse s .state
    else { state := State.updateSign { s with table := { s.table with onCall := true } }, status := .ok, results := [] }
  | some false =>
    { state := State.updateSign { s with table := { s.table with onCall := false } }, status := .ok, results := [] }

/-- SET_ON_CALL (R76). -/
def execSetOnCall (p : Port) (value : Byte) (s : State) : Result := request p .setOnCall (setOnCall value) s

/-- R77. -/
def setSeatLimit (limit : Nat) (s : State) : Answer :=
  if limit < 1 ∨ 4 < limit then refuse s .range
  else if limit < s.nonVacant then refuse s .state
  else { state := State.updateSign { s with table := { s.table with seatLimit := limit } }, status := .ok, results := [] }

/-- SET_SEAT_LIMIT (R77). -/
def execSetSeatLimit (p : Port) (limit : Byte) (s : State) : Result :=
  request p .setSeatLimit (setSeatLimit limit.toNat) s

end Sys2Proof.Machine
end

