-- ==== Sys2Proof/Machine/Journal.lean ====
section
/-! DEFINITION. Chapter 6: reading and acknowledging the journal, the start and the completion of an append. -/

namespace Sys2Proof.Machine

/-! ## Reading and acknowledging (R116 to R118) -/

/-- The stored entry that JOURNAL_READ names, with the entries from it on; 0 stands for the oldest (R116). -/
def RecordStore.find (j : RecordStore) (seq : Nat) : List Entry :=
  if seq = 0 then j.stored else j.stored.dropWhile (fun e => e.seq ≠ seq)

/-- R116. -/
def journalRead (seq : Nat) (s : State) : Answer :=
  match s.journal.find seq with
  | [] => refuse s .unknown
  | [e] => { state := s, status := .ok, results := u32 0 ++ entryBytes e }
  | e :: next :: _ => { state := s, status := .ok, results := u32 next.seq ++ entryBytes e }

/-- JOURNAL_READ (R116). -/
def execJournalRead (p : Port) (seq : BitVec 32) (s : State) : Result := request p .journalRead (journalRead seq.toNat) s

/-- The record store with every entry up to a number removed (R117). -/
def RecordStore.ack (j : RecordStore) (seq : Nat) : RecordStore :=
  { j with stored := j.stored.filter (fun e => seq < e.seq) }

/-- The number of the oldest stored entry. -/
def RecordStore.oldest (j : RecordStore) : Option Nat := j.stored.head?.map (·.seq)

/-- The number of the newest stored entry. -/
def RecordStore.newest (j : RecordStore) : Option Nat := j.stored.getLast?.map (·.seq)

/-- R117: RANGE above the last number given; otherwise the entries up to the number are removed. -/
def journalAck (seq : Nat) (s : State) : Answer :=
  if s.journal.nextSeq - 1 < seq then refuse s .range
  else
    let j := s.journal.ack seq
    { state := { s with journal := j }, status := .ok
      results := presence [j.oldest.isSome] ++ u16 (s.journal.stored.length - j.stored.length) ++ u32 (j.oldest.getD 0) ++
        u16 j.free }

/-- JOURNAL_ACK (R117). -/
def execJournalAck (p : Port) (seq : BitVec 32) (s : State) : Result := request p .journalAck (journalAck seq.toNat) s

/-- The entry in flight (R114). -/
def RecordStore.flying (j : RecordStore) : Option EntryBody := if j.inFlight then j.places.head? else none

/-- The items of R118's table. -/
def journalResults (s : State) : List Byte :=
  let j := s.journal
  presence [j.oldest.isSome, j.newest.isSome, j.flying.isSome] ++ u32 (j.oldest.getD 0) ++ u32 (j.newest.getD 0) ++
  u16 j.stored.length ++ u8 j.queued ++ u8 j.waiting.length ++ u16 j.free ++ u64 j.nextSeq ++
  u8 ((j.flying.map entryCode).getD 0) ++ u8 s.reserve

/-- JOURNAL_STATUS (R118). -/
def execJournalStatus (p : Port) (s : State) : Result :=
  request p .journalStatus (fun s => { state := s, status := .ok, results := journalResults s }) s

/-! ## Appends (R114) -/

/-- The write of the first entry of the append queue begins; without an entry there is nothing to write (R114). -/
def appendWriteStart (s : State) : State :=
  { s with journal := { s.journal with inFlight := s.journal.inFlight || !s.journal.places.isEmpty } }

/-- APPEND_WRITE_START (R114). -/
def execAppendWriteStart (s : State) : Result := event appendWriteStart s

/-- The entry that an append stores: the next sequence number, its entry time (an ORPHAN_APPROVAL entry keeps the time
at which it was queued, R110), and for a SHIFT entry the entry time as its close time (R138). -/
def storedEntry (seq : Nat) (now : Stamp) : EntryBody → Entry
  | .orphan o => { seq := seq, time := o.time, body := .orphan o }
  | .shift r => { seq := seq, time := now, body := .shift { r with closeTime := some now } }
  | b => { seq := seq, time := now, body := b }

/-- The record store after the entry in its first place is stored: the queue moves forward, the oldest waiting entry
takes the last place, and no write is in flight (R114). -/
def RecordStore.complete (j : RecordStore) (e : Entry) : RecordStore :=
  { stored := j.stored ++ [e], nextSeq := j.nextSeq + 1
    places := j.places.tail ++ j.waiting.take 1, waiting := j.waiting.drop 1, inFlight := false }

/-- The number after a shift's; the close of shift 4,294,967,295 leaves it exhausted (R135). -/
def nextShiftNumber : Option Nat → Option Nat
  | some n => if n < max32 then some (n + 1) else none
  | none => none

/-- The close of the shift with its entry's time (R135). -/
def Shift.closeAt (u : Shift) (t : Stamp) : Shift :=
  { u with state := .closed, closeTime := some t, number := nextShiftNumber u.number }

/-- The completion of an adoption (R15): a seal closing held back takes effect. -/
def Measurement.adopt (m : Measurement) (k ceiling count : Nat) : Measurement :=
  { m with cal := { m.cal with k := k, ceiling := ceiling, count := count }, run := .idle, sealState := m.sealInput }

/-- The completion of an activation (R27). -/
def TariffStore.activate (t : TariffStore) (version : BitVec 16) : TariffStore :=
  { t with activeVersion := version, active := t.staged, staged := TariffSet.empty, stage := .idle }

/-- The consequences of a completion (R114): the counting of a trip and the clearing of its slot (R80), the close of the
shift (R135), the adoption (R15), the activation (R27); none for an orphan approval. -/
def State.afterStored (s : State) (e : Entry) : State :=
  match e.body with
  | .trip t => State.updateSign { (s.setParty t.slot none) with shift := s.shift.countTrip t }
  | .shift _ => (State.updateSign { s with shift := s.shift.closeAt e.time }).raise .shiftClosed
  | .orphan _ => s
  | .calibration _ k _ ceiling count => { s with meas := s.meas.adopt k ceiling count }
  | .tariff _ version => ({ s with store := s.store.activate version } : State).raise .tariffActive

/-- The completion of the append in flight, its first update (R121): the entry is stored. -/
def State.storeHead (s : State) : Option (Entry × State) :=
  match s.journal.flying with
  | none => none
  | some b =>
    let e := storedEntry s.journal.nextSeq s.store.now b
    some (e, { s with journal := s.journal.complete e })

/-- R114: the append in flight completes, with its consequences, in one event. -/
def appendComplete (s : State) : State :=
  match s.storeHead with
  | none => s
  | some (e, t) => t.afterStored e

/-- APPEND_COMPLETE (R114). -/
def execAppendComplete (s : State) : Result := event appendComplete s

end Sys2Proof.Machine
end

