-- ==== Sys2Proof/Machine/Motion.lean ====
section
/-! DEFINITION. Chapter 1: READ_MOTION, SET_STOP_INTERLOCK, the calibration requests, distance pulses and the seal. -/

namespace Sys2Proof.Machine

/-! ## READ_MOTION (R16) -/

/-- The course length of a run, where its state has one (R10). -/
def CalRun.course : CalRun → Option Nat
  | .idle => none
  | .ready c => some c
  | .counting c _ => some c
  | .done c _ _ => some c
  | .failed c _ _ => some c
  | .adopting c _ _ _ => some c

/-- The course count of a run, where its state has one (R10). -/
def CalRun.count : CalRun → Option Nat
  | .counting _ n => some n
  | .done _ n _ => some n
  | .failed _ n _ => some n
  | .adopting _ n _ _ => some n
  | _ => none

/-- The computed constant of a run, where its state has one (R10). -/
def CalRun.computed : CalRun → Option Nat
  | .done _ _ k => some k
  | .failed _ _ k => some k
  | .adopting _ _ k _ => some k
  | _ => none

/-- The requested ceiling of a run, where one was given (R10). -/
def CalRun.requested : CalRun → Option Nat
  | .adopting _ _ _ c => c
  | _ => none

/-- The items of R16's table. -/
def motionResults (m : Measurement) : List Byte :=
  presence [m.run.course.isSome, m.run.count.isSome, m.run.computed.isSome, m.run.requested.isSome] ++
  u32 m.closure ++ u16 m.raw ++ u16 m.last.charged ++ u16 m.last.excess ++ u16 m.last.windowSpeed ++
  u16 m.last.smoothed ++ yesNo m.moving ++ u16 m.cal.k ++ u16 m.cal.ceiling ++ u32 m.cal.count ++ u16 m.cal.interlock ++
  u8 (sealCode m.sealState) ++ u8 (runCode m.run) ++ u16 (m.run.course.getD 0) ++ u32 (m.run.count.getD 0) ++
  u64 (m.run.computed.getD 0) ++ u16 (m.run.requested.getD 0)

/-- READ_MOTION (R16). -/
def execReadMotion (p : Port) (s : State) : Result :=
  request p .readMotion (fun s => { state := s, status := .ok, results := motionResults s.meas }) s

/-! ## SET_STOP_INTERLOCK (R7) -/

/-- R7: a speed of 0 to 300 replaces the stop interlock speed. -/
def setStopInterlock (speed : Nat) (s : State) : Answer :=
  if 300 < speed then refuse s .range
  else
    { state := { s with meas := { s.meas with cal := { s.meas.cal with interlock := speed } } }
      status := .ok, results := u16 speed }

/-- SET_STOP_INTERLOCK (R7). -/
def execSetStopInterlock (p : Port) (speed : BitVec 16) (s : State) : Result :=
  request p .setStopInterlock (setStopInterlock speed.toNat) s

/-! ## The calibration run (R10 to R14) -/

/-- Put the run in a state. -/
def State.setRun (s : State) (r : CalRun) : State := { s with meas := { s.meas with run := r } }

/-- Whether the shift is not CLOSED or a slot is non-vacant: check 4 of R11 and check 5 of R14. -/
def State.inService (s : State) : Bool := decide (s.shift.state ≠ .closed) || decide (s.nonVacant ≠ 0)

/-- The checks of R11 from RANGE on, with BUSY already passed. -/
def calBeginFree (course : Nat) (s : State) : Answer :=
  if course < 100 ∨ 5000 < course then refuse s .range
  else if s.meas.sealState = .closed then refuse s .sealed
  else if s.inService then refuse s .state
  else { state := s.setRun (.ready course), status := .ok, results := [] }

/-- R11: taken in IDLE and FAILED. -/
def calBegin (course : Nat) (s : State) : Answer :=
  match s.meas.run with
  | .idle => calBeginFree course s
  | .failed _ _ _ => calBeginFree course s
  | _ => refuse s .busy

/-- CAL_BEGIN (R11). -/
def execCalBegin (p : Port) (course : BitVec 16) (s : State) : Result := request p .calBegin (calBegin course.toNat) s

/-- K_new of R12, rounded half up. -/
def computedK (count course : Nat) : Nat := (count * 1000 + course / 2) / course

/-- R12: the start mark, the end mark, and the refusals. DEDUCED (log 35): the results come without a presence field, and
the start mark has none. -/
def calMark (s : State) : Answer :=
  match s.meas.run with
  | .ready course => { state := s.setRun (.counting course 0), status := .ok, results := [] }
  | .counting course n =>
    if 500 ≤ computedK n course ∧ computedK n course ≤ 50000 then
      { state := (s.setRun (.done course n (computedK n course))).raise .calibrationPending
        status := .ok, results := u32 n ++ u64 (computedK n course) }
    else
      { state := s.setRun (.failed course n (computedK n course))
        status := .range, results := u32 n ++ u64 (computedK n course) }
  | .adopting _ _ _ _ => refuse s .busy
  | _ => refuse s .state

/-- CAL_MARK (R12). -/
def execCalMark (p : Port) (s : State) : Result := request p .calMark calMark s

/-- R13: back to IDLE, but in ADOPTING. -/
def calAbort (s : State) : Answer :=
  match s.meas.run with
  | .adopting _ _ _ _ => refuse s .busy
  | _ => { state := s.setRun .idle, status := .ok, results := [] }

/-- CAL_ABORT (R13). -/
def execCalAbort (p : Port) (s : State) : Result := request p .calAbort calAbort s

/-- R14 once every check has passed: the CALIBRATION entry is queued and the run becomes ADOPTING. -/
def calAdoptTaken (course n k : Nat) (ceiling : Option Nat) (s : State) : Answer :=
  { state := { s.setRun (.adopting course n k ceiling) with
      journal := s.journal.append (.calibration s.meas.cal.k k s.meas.cal.ceiling (ceiling.getD s.meas.cal.ceiling)
        (satAdd max32 s.meas.cal.count 1)) }
    status := .ok
    results := presence [ceiling.isSome] ++ u16 s.meas.cal.k ++ u16 k ++ u16 s.meas.cal.ceiling ++ u16 (ceiling.getD 0) }

/-- R14: the checks in their order; 0 stands for no ceiling (R203). -/
def calAdopt (ceiling : Nat) (s : State) : Answer :=
  match s.meas.run with
  | .adopting _ _ _ _ => refuse s .busy
  | run =>
    if 4095 < ceiling then refuse s .range
    else if s.meas.sealState = .closed then refuse s .sealed
    else
      match run with
      | .done course n k =>
        if s.inService then refuse s .state
        else if s.journal.free = 0 ∨ s.journal.placeFree = false then refuse s .full
        else calAdoptTaken course n k (if ceiling = 0 then none else some ceiling) s
      | _ => refuse s .state

/-- CAL_ADOPT (R14). -/
def execCalAdopt (p : Port) (ceiling : BitVec 16) (s : State) : Result := request p .calAdopt (calAdopt ceiling.toNat) s

/-! ## Distance pulses (R1) and the seal input (R9) -/

/-- A run with one pulse more, which only COUNTING counts (R1). -/
def CalRun.pulse : CalRun → CalRun
  | .counting course n => .counting course (satAdd max32 n 1)
  | r => r

/-- R1: the pulse adds 1 to the raw count and, while COUNTING, to the course count. -/
def distancePulse (s : State) : State :=
  { s with meas := { s.meas with raw := satAdd max16 s.meas.raw 1, run := s.meas.run.pulse } }

/-- DISTANCE_PULSE (R1). -/
def execDistancePulse (s : State) : Result := event distancePulse s

/-- R9: the debounced input closes. In ADOPTING the closing is held back: the input is closed and the seal state stays
OPEN until the adoption completes. -/
def sealClose (s : State) : State :=
  let m := { s.meas with sealInput := .closed, sealPin := s.meas.sealPin.at .closed }
  match m.run with
  | .adopting _ _ _ _ => { s with meas := m }
  | _ => { s with meas := { m with sealState := .closed, run := .idle } }

/-- SEAL_CLOSE (R9). -/
def execSealClose (s : State) : Result := event sealClose s

/-- R9: the debounced input opens; a closing held back is withdrawn. -/
def sealOpen (s : State) : State :=
  { s with meas := { s.meas with sealInput := .opened, sealState := .opened, sealPin := s.meas.sealPin.at .opened } }

/-- SEAL_OPEN (R9). -/
def execSealOpen (s : State) : Result := event sealOpen s

/-- R9: the seal input has been stable at another level for 50 ms, and the change is taken. -/
def sealDebounced (s : State) : State :=
  if Config.sealDebounceMs ≤ s.meas.sealPin.stable then
    match s.meas.sealPin.level with
    | .closed => sealClose s
    | .opened => sealOpen s
  else s

end Sys2Proof.Machine
end

