-- ==== Sys2Proof/Machine/NoticesUnit.lean ====
section
/-! DEFINITION. Chapter 10: reading, clearing and enabling notices, the route table, the message queues. -/

namespace Sys2Proof.Machine

/-- Change a port's notices. -/
def State.setNotices (s : State) (p : Port) (x : PortNotices) : State :=
  { s with notices := { s.notices with ports := s.notices.ports.set p x } }

/-! ## READ_NOTICES, CLEAR_NOTICES, SET_NOTICE_ENABLE (R187 to R189) -/

/-- The reply of READ_NOTICES (R187). -/
def noticeResults (s : State) (p : Port) : List Byte :=
  u32 (s.pendingSet p).toNat ++ u32 (s.notices.ports.get p).enabled.toNat ++ yesNo (s.noticeLine p) ++
  u8 (s.notices.ports.get p).messages.length ++ levelSources.flatMap (fun src => yesNo (s.levelHolds src))

/-- R187: READ changes nothing; TAKE removes every pulse source from the port's pending set. -/
def readNotices (p : Port) (option : Byte) (s : State) : Answer :=
  match flagOf option with
  | none => refuse s .range
  | some take =>
    { state := if take then s.setNotices p { (s.notices.ports.get p) with pulses := 0 } else s
      status := .ok, results := noticeResults s p }

/-- READ_NOTICES (R187). -/
def execReadNotices (p : Port) (option : Byte) (s : State) : Result := request p .readNotices (readNotices p option) s

/-- R188: the named pulse sources are removed from the port's pending set. -/
def clearNotices (p : Port) (sources : BitVec 32) (s : State) : Answer :=
  match sourceSetOf sources with
  | none => refuse s .range
  | some set =>
    let x := s.notices.ports.get p
    let t := s.setNotices p { x with pulses := x.pulses &&& ~~~(set.setWidth 16) }
    { state := t, status := .ok, results := u32 (t.pendingSet p).toNat }

/-- CLEAR_NOTICES (R188). -/
def execClearNotices (p : Port) (sources : BitVec 32) (s : State) : Result :=
  request p .clearNotices (clearNotices p sources) s

/-- R189: the set replaces the port's enable set. -/
def setNoticeEnable (p : Port) (sources : BitVec 32) (s : State) : Answer :=
  match sourceSetOf sources with
  | none => refuse s .range
  | some set =>
    let t := s.setNotices p { (s.notices.ports.get p) with enabled := set }
    { state := t, status := .ok, results := u32 set.toNat ++ u32 (t.pendingSet p).toNat }

/-- SET_NOTICE_ENABLE (R189). -/
def execSetNoticeEnable (p : Port) (sources : BitVec 32) (s : State) : Result :=
  request p .setNoticeEnable (setNoticeEnable p sources) s

/-! ## The route table (R190, R191) -/

/-- The routes with their mandatory minimums, in source order (R190). -/
def routeResults (n : Notices) : List Byte :=
  (List.zip n.routes.toArray.toList mandatoryMinimums.toArray.toList).flatMap
    (fun x => u8 (portSetCode x.1) ++ u8 (portSetCode x.2))

/-- READ_ROUTES (R190). -/
def execReadRoutes (p : Port) (s : State) : Result :=
  request p .readRoutes (fun s => { state := s, status := .ok, results := routeResults s.notices }) s

/-- R191: the set joined with the source's mandatory minimum becomes its route; CLAMPED names the ports added. -/
def setRoute (source ports : Byte) (s : State) : Answer :=
  match routeIndex source.toNat, portSetOf ports with
  | some i, some given =>
    let added := PortSet.diff mandatoryMinimums[i] given
    let now := PortSet.union given mandatoryMinimums[i]
    { state := { s with notices := { s.notices with routes := s.notices.routes.set i now } }
      status := if added = PortSet.empty then .ok else .clamped
      results := presence [decide (added ≠ PortSet.empty)] ++ u8 (portSetCode added) ++
        u8 (portSetCode s.notices.routes[i]) ++ u8 (portSetCode now) }
  | _, _ => refuse s .range

/-- SET_ROUTE (R191). -/
def execSetRoute (p : Port) (source ports : Byte) (s : State) : Result := request p .setRoute (setRoute source ports) s

/-! ## The message queues (R192, R193) -/

/-- Whether a text has 1 to 32 characters, each of code 32 to 126 (R192). -/
def textOk (text : List Byte) : Bool :=
  decide (1 ≤ text.length) && decide (text.length ≤ 32) &&
  text.all (fun c => decide (32 ≤ c.toNat) && decide (c.toNat ≤ 126))

/-- R192: the checks in their order, then the message appended and MESSAGE raised at the target alone. -/
def postMessage (p : Port) (target : Byte) (text : List Byte) (s : State) : Answer :=
  match portOf target with
  | none => refuse s .range
  | some q =>
    if q = p then refuse s .range
    else if textOk text = false then refuse s .range
    else
      let x := s.notices.ports.get q
      if Config.messagePlaces ≤ x.messages.length then refuse s .full
      else
        { state := s.setNotices q (PortNotices.add { x with messages := x.messages ++ [{ sender := p, text := text }] } .message)
          status := .ok, results := u8 (x.messages.length + 1) }

/-- POST_MESSAGE (R192). -/
def execPostMessage (p : Port) (target : Byte) (text : List Byte) (s : State) : Result :=
  request p .postMessage (postMessage p target text) s

/-- R193: the oldest message leaves the port's queue. -/
def takeMessage (p : Port) (s : State) : Answer :=
  match (s.notices.ports.get p).messages with
  | [] => refuse s .unknown
  | m :: rest =>
    { state := s.setNotices p { (s.notices.ports.get p) with messages := rest }, status := .ok
      results := u8 (portCode m.sender) ++ counted (fun c => [c]) m.text ++ u8 rest.length }

/-- TAKE_MESSAGE (R193). -/
def execTakeMessage (p : Port) (s : State) : Result := request p .takeMessage (takeMessage p) s

end Sys2Proof.Machine
end

