-- ==== Sys2Proof/Machine/Payments.lean ====
section
/-! DEFINITION. Chapter 5: card sessions, tips, PIN entry, card results, cash, expiry. -/

namespace Sys2Proof.Machine

/-! ## PAY_OPEN (R88, R89) -/

/-- The counter after `n`: from 65,535 to 1 (R86). -/
def nextPayment (n : Nat) : Nat := if n < 65535 then n + 1 else 1

/-- The session that PAY_OPEN opens (R85, R89). -/
def newSession (s : State) (i : Fin 4) (p : Party) : Session :=
  { slot := i, hire := p.hire, payment := s.pay.counter, requested := p.remaining, allowance := s.allowance
    timeLeft := s.shift.holdLimit * 1000, pinEntry := false }

/-- The payment ticket (R89, R201). -/
def ticketBytes (s : State) (i : Fin 4) (p : Party) : List Byte :=
  u16 s.pay.counter ++ u8 i.val ++ u8 (if p.tenders.length = 3 then 1 else 0) ++ u32 p.hire ++ u32 p.fare ++
  u32 (extrasTotal p.extras) ++ u32 p.tip ++ u8 p.tenders.length ++ u32 p.remaining ++ u32 s.allowance

/-- An accepted PAY_OPEN (R89). -/
def payOpenTaken (s : State) (i : Fin 4) (p : Party) : State :=
  let s1 := s.setParty i (some { p with state := .paying, payment := some s.pay.counter })
  (({ s1 with pay := { s1.pay with session := some (newSession s i p), counter := nextPayment s.pay.counter } } :
    State).raise .paymentOpened).updateSign

/-- R88: the checks in their order. -/
def payOpen (slot : Byte) (s : State) : Answer :=
  match slotOf slot with
  | none => refuse s .range
  | some i =>
    if s.pay.session.isSome then refuse s .busy
    else
      match s.party i with
      | none => refuse s .unknown
      | some p =>
        match p.state with
        | .closing => refuse s .busy
        | .running => refuse s .state
        | _ =>
          if p.remaining = 0 then refuse s .state
          else { state := payOpenTaken s i p, status := .ok, results := ticketBytes s i p }

/-- PAY_OPEN (R88). -/
def execPayOpen (p : Port) (slot : Byte) (s : State) : Result := request p .payOpen (payOpen slot) s

/-! ## PAY_TIP (R91) -/

/-- Whether a request names the open session: the payment number and, where given, the hire number (R91, R95). -/
def Session.named (x : Session) (payment hire : Nat) : Bool :=
  decide (x.payment = payment) && (decide (hire = 0) || decide (x.hire = hire))

/-- The tip set: the requested tip under the cap, raised to the floor (R91). -/
def Party.limitTip (p : Party) (tipCap requested : Nat) : Nat :=
  max (min requested (p.fare * tipCap / 1000)) (tendersTotal p.tenders + 1 - p.fare - extrasTotal p.extras)

/-- R91 for the open session's party. -/
def payTipTaken (x : Session) (p : Party) (tip : Nat) (s : State) : Answer :=
  let set := p.limitTip s.shift.tipCap tip
  let q : Party := { p with tip := set }
  let s1 := s.setParty x.slot (some q)
  { state := { s1 with pay := { s1.pay with session := some { x with requested := q.remaining } } }
    status := if set = tip then .ok else .clamped
    results := presence [decide (set ≠ tip)] ++ u32 (if set = tip then 0 else set) ++ u32 q.due ++ u32 q.remaining }

/-- R91: the checks in their order. -/
def payTip (payment hire tip : Nat) (s : State) : Answer :=
  if payment = 0 ∨ 999999 < tip then refuse s .range
  else
    match s.pay.session with
    | none => refuse s .state
    | some x =>
      if x.named payment hire = false then refuse s .state
      else
        match s.party x.slot with
        | none => refuse s .state
        | some p => payTipTaken x p tip s

/-- PAY_TIP (R91). -/
def execPayTip (p : Port) (payment : BitVec 16) (hire tip : BitVec 32) (s : State) : Result :=
  request p .payTip (payTip payment.toNat hire.toNat tip.toNat) s

/-! ## PIN entry and the guard timer (R92 to R94) -/

/-- R92 and R93: ENTRY stops the guard timer and renews the deadline; IDLE from ENTRY starts the guard timer. -/
def pinState (value : Byte) (s : State) : Answer :=
  match flagOf value with
  | none => refuse s .range
  | some entry =>
    match s.pay.session with
    | none => refuse s .state
    | some x =>
      if entry then
        { state := State.settleGates { s with pay := { s.pay with
            session := some { x with pinEntry := true, timeLeft := s.shift.holdLimit * 1000 }, guardTimer := none } }
          status := .ok, results := [] }
      else if x.pinEntry then
        { state := State.settleGates { s with pay := { s.pay.startGuard with session := some { x with pinEntry := false } } }
          status := .ok, results := [] }
      else { state := s, status := .ok, results := [] }

/-- PIN_STATE (R92, R93). -/
def execPinState (p : Port) (value : Byte) (s : State) : Result := request p .pinState (pinState value) s

/-- R94: the PIN guard time. -/
def setPinGuard (time : Nat) (s : State) : Answer :=
  if time < 1 ∨ 255 < time then refuse s .range
  else { state := { s with pay := { s.pay with guardTime := time } }, status := .ok, results := [] }

/-- SET_PIN_GUARD (R94). -/
def execSetPinGuard (p : Port) (time : Byte) (s : State) : Result := request p .setPinGuard (setPinGuard time.toNat) s

/-- R94: the guard timer has run out, the full guard time having passed since it last started (log 5). -/
def pinGuardExpiry (s : State) : State :=
  if s.pay.guardTimer = some 0 then State.settleGates { s with pay := { s.pay with guardTimer := none } } else s

/-- PIN_GUARD_EXPIRY (R94). -/
def execPinGuardExpiry (s : State) : Result := event pinGuardExpiry s

/-! ## Card results (R95 to R104) -/

/-- Queue an orphan approval entry, raise its notice and count it in an OPEN shift (R97). -/
def State.queueOrphan (s : State) (o : OrphanEntry) : State :=
  ({ s with journal := s.journal.append (.orphan o)
            shift := s.shift.gain (fun c => { c with orphans := satAdd max32 c.orphans 1 }) } : State).raise .orphanApproval

/-- The orphan approval entry of an approval at this moment (R97). -/
def State.orphanOf (s : State) (payment : Nat) (hire : Option Nat) (offline : Bool) (amount reference : Nat) : OrphanEntry :=
  { payment := payment, hire := hire, offline := offline, amount := amount, reference := reference, time := s.store.now }

/-- The over-allowance flag of an approval on a party (R90). -/
def State.overFlag (s : State) (p : Party) (offline : Bool) (amount : Nat) : Bool :=
  offline && decide (s.allowance < min amount p.remaining)

/-- The tender of an approval on a party (R98). -/
def State.approvalTender (s : State) (p : Party) (payment : Nat) (offline : Bool) (amount reference : Nat) : Tender :=
  if offline then
    .cardOffline (min amount p.remaining) payment reference (amount - min amount p.remaining) (s.overFlag p offline amount)
  else .cardOnline (min amount p.remaining) payment reference (amount - min amount p.remaining)

/-- A party whose card holder was charged an excess or not (R98). -/
def Party.noteExcess (p : Party) (amount : Nat) : Party :=
  { p with excessCharged := p.excessCharged || decide (p.remaining < amount) }

/-- The results of an applied approval (R98): applied amount, excess, over-allowance flag, amount remaining, state. -/
def approvalResults (p : Party) (beyond : Bool) (amount : Nat) : List Byte :=
  u32 (min amount p.remaining) ++ u32 (amount - p.remaining) ++ yesNo beyond ++ u32 (p.remaining - amount) ++
  u8 (partyStateCode (if p.remaining ≤ amount then .closing else .stopped))

/-- The status of an applied approval: CLAMPED where there is an excess (R98). -/
def approvalStatus (p : Party) (amount : Nat) : Status := if p.remaining < amount then .clamped else .ok

/-- R98: an approval for the open session is applied. -/
def applyOpen (x : Session) (p : Party) (offline : Bool) (amount reference : Nat) (s : State) : Answer :=
  let s1 : State := { s with pay := s.pay.close x .result }
  let s2 := s1.applyTender x.slot (p.noteExcess amount) (s.approvalTender p x.payment offline amount reference)
  { state := ((s2.updateSign.raise .paymentResult).requestTone .rear .approved).settleGates
    status := approvalStatus p amount, results := approvalResults p (s.overFlag p offline amount) amount }

/-- R99: an approval for the open session that cannot take a place becomes an orphan approval where there is room. -/
def orphanOpen (x : Session) (offline : Bool) (amount reference : Nat) (s : State) : Answer :=
  if s.orphanRoom then
    let s1 := s.queueOrphan (s.orphanOf x.payment (some x.hire) offline amount reference)
    let s2 : State := { s1 with pay := s1.pay.close x .result }
    { state := ((((s2.releaseParty x.slot).updateSign).raise .paymentResult).requestTone .rear .declined).settleGates
      status := .conflict, results := [] }
  else refuse s .full

/-- R98 and R99: an approval for the open session. -/
def approveOpen (x : Session) (offline : Bool) (amount reference : Nat) (s : State) : Answer :=
  match s.party x.slot with
  | none => orphanOpen x offline amount reference s
  | some p => if p.canTake amount then applyOpen x p offline amount reference s else orphanOpen x offline amount reference s

/-- R100: a DECLINED or ABORTED result for the open session. -/
def declineOpen (x : Session) (declined : Bool) (s : State) : Answer :=
  let s1 : State := { s with
    pay := s.pay.close x .result
    shift := s.shift.gain (fun c =>
      if declined then { c with declines := satAdd max32 c.declines 1 } else { c with aborts := satAdd max32 c.aborts 1 }) }
  let s2 := s1.releaseParty x.slot
  { state := ((s2.updateSign.raise .paymentResult).requestTone .rear .declined).settleGates
    status := .ok
    results := u8 (slotStateCode (s2.party x.slot)) ++ u32 (match s2.party x.slot with | some p => p.remaining | none => 0) }

/-- Whether a recent-session item matches a result (R87). -/
def RecentSession.matchesResult (it : RecentSession) (payment hire : Nat) : Bool :=
  decide (it.payment = payment) && (decide (hire = 0) || decide (it.hire = hire))

/-- The recent-session list with an item's cause made RESULT (R87). -/
def markResult (l : List RecentSession) (it : RecentSession) : List RecentSession :=
  l.map (fun y => if y = it then { y with cause := .result } else y)

/-- The party that a late approval still fits: the item's cause is EXPIRED, its slot holds its hire, STOPPED with an
amount remaining, and the tender can take a place (R102). -/
def State.lateParty (s : State) (it : RecentSession) (amount : Nat) : Option Party :=
  match s.party it.slot with
  | none => none
  | some p =>
    if it.cause = .expired ∧ p.hire = it.hire ∧ p.state = .stopped ∧ 1 ≤ p.remaining ∧ p.canTake amount = true then some p
    else none

/-- R102: a late approval is applied. -/
def applyLate (it : RecentSession) (p : Party) (offline : Bool) (amount reference : Nat) (s : State) : Answer :=
  let s1 : State := { s with pay := { s.pay with recent := markResult s.pay.recent it } }
  let s2 := s1.applyTender it.slot { p.noteExcess amount with lateApproval := true }
    (s.approvalTender p it.payment offline amount reference)
  { state := s2.updateSign.raise .paymentResult
    status := approvalStatus p amount, results := approvalResults p (s.overFlag p offline amount) amount }

/-- R103: a late approval recorded as an orphan approval. -/
def orphanLate (found : Option RecentSession) (payment : Nat) (offline : Bool) (amount reference : Nat) (s : State) :
    Answer :=
  if s.orphanRoom then
    match found with
    | some it =>
      { state := ({ s with pay := { s.pay with recent := markResult s.pay.recent it } } : State).queueOrphan
          (s.orphanOf payment (some it.hire) offline amount reference)
        status := .conflict, results := [] }
    | none =>
      { state := s.queueOrphan (s.orphanOf payment none offline amount reference), status := .unknown, results := [] }
  else refuse s .full

/-- R102 and R103: a late approval. -/
def approveLate (payment hire : Nat) (offline : Bool) (amount reference : Nat) (s : State) : Answer :=
  match s.pay.recent.find? (fun it => it.matchesResult payment hire) with
  | none => orphanLate none payment offline amount reference s
  | some it =>
    match s.lateParty it amount with
    | some p => applyLate it p offline amount reference s
    | none => orphanLate (some it) payment offline amount reference s

/-- The open session that a result names (R95). -/
def State.openFor (s : State) (payment hire : Nat) : Option Session :=
  match s.pay.session with
  | none => none
  | some x => if x.named payment hire then some x else none

/-- An approval: RANGE for its amount or reference, then R98 and R99 or R102 and R103. -/
def approval (payment hire : Nat) (offline : Bool) (amount reference : Nat) (s : State) : Answer :=
  if amount < 1 ∨ moneyMax < amount ∨ 99999999 < reference then refuse s .range
  else
    match s.openFor payment hire with
    | some x => approveOpen x offline amount reference s
    | none => approveLate payment hire offline amount reference s

/-- A DECLINED or ABORTED result: R100 for the open session, R104 for a late one. -/
def decline (payment hire : Nat) (declined : Bool) (s : State) : Answer :=
  match s.openFor payment hire with
  | some x => declineOpen x declined s
  | none => { state := s, status := .ok, results := [] }

/-- R95: RANGE for the payment number or the outcome, then the outcome. -/
def payResult (payment hire : Nat) (outcome : Byte) (amount reference : Nat) (s : State) : Answer :=
  if payment = 0 then refuse s .range
  else
    match outcomeOf outcome with
    | none => refuse s .range
    | some .approvedOnline => approval payment hire false amount reference s
    | some .approvedOffline => approval payment hire true amount reference s
    | some .declined => decline payment hire true s
    | some .aborted => decline payment hire false s

/-- PAY_RESULT (R95). -/
def execPayResult (p : Port) (payment : BitVec 16) (hire : BitVec 32) (outcome : Byte) (amount reference : BitVec 32)
    (s : State) : Result :=
  request p .payResult (payResult payment.toNat hire.toNat outcome amount.toNat reference.toNat) s

/-! ## Expiry (R101) -/

/-- The open session whose time has run out (R92, R101). -/
def Payment.expired (y : Payment) : Option Session := y.session.filter (fun x => x.timeLeft = 0)

/-- R101: the open session expires once the hold limit has passed since PAY_OPEN or the last ENTRY; a deadline that an
ENTRY renewed in the meantime has not come (R92, log 5). -/
def sessionExpiry (s : State) : State :=
  match s.pay.expired with
  | none => s
  | some x =>
    let s1 : State := { s with
      pay := s.pay.close x .expired
      shift := s.shift.gain (fun c => { c with expiries := satAdd max32 c.expiries 1 }) }
    (((((s1.releaseParty x.slot).updateSign).raise .paymentExpired).requestTone .front .expired).requestTone .rear
      .expired).settleGates

/-- SESSION_EXPIRY (R101). -/
def execSessionExpiry (s : State) : Result := event sessionExpiry s

/-! ## CASH_SETTLE (R105, R106) -/

/-- R106: the cash tender, or for nothing remaining the closing without a tender. -/
def cashTaken (i : Fin 4) (p : Party) (amount : Nat) (s : State) : Answer :=
  { state := (if p.remaining = 0 then s.enterClosing i p
              else s.applyTender i p (.cash (min amount p.remaining))).updateSign
    status := .ok
    results := u32 (min amount p.remaining) ++ u32 (amount - p.remaining) ++ u32 (p.remaining - amount) ++
      u8 (partyStateCode (if p.remaining ≤ amount then .closing else .stopped)) }

/-- R105: the checks in their order. -/
def cashSettle (slot : Byte) (amount : Nat) (s : State) : Answer :=
  match slotOf slot with
  | none => refuse s .range
  | some i =>
    if amount < 1 ∨ moneyMax < amount then refuse s .range
    else
      match s.party i with
      | none => refuse s .unknown
      | some p =>
        match p.state with
        | .closing => refuse s .busy
        | .paying => refuse s .locked
        | .running => refuse s .state
        | .stopped =>
          if 4 ≤ p.tenders.length then refuse s .full
          else if p.tenders.length = 3 ∧ amount < p.remaining then refuse s .range
          else cashTaken i p amount s

/-- CASH_SETTLE (R105). -/
def execCashSettle (p : Port) (slot : Byte) (amount : BitVec 32) (s : State) : Result :=
  request p .cashSettle (cashSettle slot amount.toNat) s

/-! ## READ_PAYMENT (R107) -/

/-- The session's items of R107's table, zeros where there is none. -/
def sessionItems : Option Session → List Byte
  | some x => u8 x.slot.val ++ u32 x.hire ++ u16 x.payment ++ u32 x.requested ++ u32 x.allowance ++ yesNo x.pinEntry ++
      u32 x.timeLeft
  | none => u8 0 ++ u32 0 ++ u16 0 ++ u32 0 ++ u32 0 ++ u8 0 ++ u32 0

/-- An item of the recent-session list (R87). -/
def recentBytes (x : RecentSession) : List Byte := u16 x.payment ++ u8 x.slot.val ++ u32 x.hire ++ u8 (causeCode x.cause)

/-- The items of R107's table; the seven items of the session are present while it is OPEN. -/
def paymentResults (s : State) : List Byte :=
  presence (List.replicate 7 s.pay.session.isSome) ++ yesNo s.pay.session.isSome ++ sessionItems s.pay.session ++
  u16 (timerValue s.pay.guardTimer) ++ u16 s.pay.counter ++ counted recentBytes s.pay.recent ++ u32 s.allowance ++
  u16 s.shift.holdLimit ++ u16 s.shift.tipCap ++ u32 s.shift.offlineCap ++ u8 s.pay.guardTime

/-- READ_PAYMENT (R107). -/
def execReadPayment (p : Port) (s : State) : Result :=
  request p .readPayment (fun s => { state := s, status := .ok, results := paymentResults s }) s

end Sys2Proof.Machine
end

