-- ==== Sys2Proof/Machine/PortFrames.lean ====
section
/-! DEFINITION. Chapter 11: the selections that are no request that reaches a block: a discarded partial frame, a frame
answered FORMAT, a reply read. -/

namespace Sys2Proof.Machine

/-- R196: a partial frame is discarded; it changes no state, and the receive buffer is empty at the next selection. The
data output gave 0 (R195). -/
def frameDiscarded (p : Port) (_received : List Byte) (s : State) : State :=
  { s with ports := s.ports.set p { (s.ports.get p) with receive := [], dataOut := .zeros } }

/-- FRAME_DISCARDED (R196). -/
def execFrameDiscarded (p : Port) (received : List Byte) (s : State) : Result := event (frameDiscarded p received) s

/-- R197: a frame answered FORMAT reaches no block; the reply echoes the kind byte received (R201). -/
def formatReply (p : Port) (received : List Byte) (s : State) : State :=
  if answeredFormat p received then s.putReply p (received.headD 0).toNat .format [] else s

/-- FORMAT_REPLY (R197). -/
def execFormatReply (p : Port) (received : List Byte) (s : State) : Result := event (formatReply p received) s

/-- The bytes that a reply read clocks out of a frame: its bytes, then zeros (R198). -/
def clockOut (frame : List Byte) (n : Nat) : List Byte := frame.take n ++ List.replicate (n - frame.length) 0

/-- A port's buffers after a reply read (R198): an empty buffer gives a FORMAT frame; a reply read to its end leaves the
buffer empty, and a reply read in part stays, its read position at its first byte. -/
def PortBuffers.read (b : PortBuffers) (clocked : Nat) : PortBuffers :=
  match b.reply with
  | none => { b with dataOut := .bytes (clockOut (replyFrame .format 0 []) clocked) }
  | some r =>
    { b with
      reply := if (r.frame.drop r.position).length ≤ clocked then none else some { r with position := 0 }
      dataOut := .bytes (clockOut (r.frame.drop r.position) clocked) }

/-- R198. -/
def replyRead (p : Port) (clocked : Nat) (s : State) : State :=
  { s with ports := s.ports.set p ((s.ports.get p).read clocked) }

/-- REPLY_READ (R198). -/
def execReplyRead (p : Port) (clocked : Nat) (s : State) : Result := event (replyRead p clocked) s

end Sys2Proof.Machine
end

