-- ==== Sys2Proof/Machine/Tariffs.lean ====
section
/-! DEFINITION. Chapter 2: staging, committing and reading tariff sets, the calendar clock, the holiday flag, the zone. -/

namespace Sys2Proof.Machine

/-! ## Staging (R22 to R25) -/

/-- R23: the staged set is emptied and the stage becomes LOADING, but in ACTIVATING. -/
def tariffBegin (s : State) : Answer :=
  match s.store.stage with
  | .activating _ => refuse s .busy
  | _ =>
    { state := { s with store := { s.store with staged := TariffSet.empty, stage := .loading } }
      status := .ok, results := [] }

/-- TARIFF_BEGIN (R23). -/
def execTariffBegin (p : Port) (s : State) : Result := request p .tariffBegin tariffBegin s

/-- A set with one item written (R24), or none where the number or a field is out of range; form 0 makes the place
absent or empty, and its fields are not examined (R203). -/
def TariffSet.write (t : TariffSet) (kind : ItemKind) (number form : Byte) (fields : BitVec 176) : Option TariffSet :=
  match kind with
  | .tariff =>
    match numberOf number with
    | none => none
    | some i =>
      if form = 0 then some { t with tariffs := t.tariffs.set i none }
      else (tariffOf fields).map (fun r => { t with tariffs := t.tariffs.set i (some r) })
  | .extraKind =>
    match numberOf number with
    | none => none
    | some i =>
      if form = 0 then some { t with extraKinds := t.extraKinds.set i none }
      else (extraKindOf fields).map (fun r => { t with extraKinds := t.extraKinds.set i (some r) })
  | .zoneRule =>
    match ruleNumberOf number with
    | none => none
    | some i =>
      if form = 0 then some { t with zoneRules := t.zoneRules.set i none }
      else (zoneRuleOf fields).map (fun r => { t with zoneRules := t.zoneRules.set i (some r) })
  | .defaults => defaultsOf fields t

/-- R24: RANGE for the kind or the form, STATE for the stage, RANGE for the number or a field, then the write. -/
def tariffItem (itemKind number form : Byte) (fields : BitVec 176) (s : State) : Answer :=
  match itemKindOf itemKind with
  | none => refuse s .range
  | some kind =>
    if kind ≠ .defaults ∧ 1 < form.toNat then refuse s .range
    else if s.store.stage ≠ .loading then refuse s .state
    else
      match s.store.staged.write kind number form fields with
      | none => refuse s .range
      | some t => { state := { s with store := { s.store with staged := t } }, status := .ok, results := [] }

/-- TARIFF_ITEM (R24). -/
def execTariffItem (p : Port) (itemKind number form : Byte) (fields : BitVec 176) (s : State) : Result :=
  request p .tariffItem (tariffItem itemKind number form fields) s

/-- Whether a set holds a tariff. -/
def TariffSet.present (t : TariffSet) (n : TariffNo) : Bool := (t.tariffs[n]).isSome

/-- Whether a rule's tariff is 0 or names a present tariff (R25, check 3). -/
def TariffSet.allows (t : TariffSet) : Option TariffNo → Bool
  | none => true
  | some n => t.present n

/-- Whether a rule passes check 3 of R25. -/
def TariffSet.tariffsOk (t : TariffSet) (r : ZoneRule) : Bool := t.allows r.day && t.allows r.night && t.allows r.holiday

/-- Whether a rule passes check 4 of R25: its entry extra names a present kind with a fixed amount. -/
def TariffSet.entryOk (t : TariffSet) (r : ZoneRule) : Bool :=
  match r.entryExtra with
  | none => true
  | some n =>
    match t.extraKinds[n] with
    | none => false
    | some k => decide (1 ≤ k.amount)

/-- The number of the first rule that fails a check; the list starts at rule number `n`. -/
def firstFailing (ok : ZoneRule → Bool) : Nat → List (Option ZoneRule) → Option Nat
  | _, [] => none
  | n, none :: rules => firstFailing ok (n + 1) rules
  | n, some r :: rules => if ok r then firstFailing ok (n + 1) rules else some n

/-- The first failing check of R25 and the tariff, default (as its period's code) or rule number that fails it. DESIGN
CHOICE (log 15): where several defaults or rules fail the same check, which R25 leaves open, the first default in the order
DAY, NIGHT, HOLIDAY, or the lowest rule number, is named. -/
def TariffSet.commitFailure (t : TariffSet) : Option (Nat × Nat) :=
  if t.present 0 = false then some (1, 1)
  else if t.present t.defaultDay = false then some (2, periodCode .day)
  else if t.present t.defaultNight = false then some (2, periodCode .night)
  else if t.present t.defaultHoliday = false then some (2, periodCode .holiday)
  else
    match firstFailing t.tariffsOk 1 t.zoneRules.toArray.toList with
    | some n => some (3, n)
    | none =>
      match firstFailing t.entryOk 1 t.zoneRules.toArray.toList with
      | some n => some (4, n)
      | none => none

/-- R25: STATE outside LOADING; a failing check is named and the stage stays LOADING; otherwise the set is armed. DEDUCED
(log 35): the RANGE reply that names a check and the OK reply are two replies without a presence field. -/
def tariffCommit (version : BitVec 16) (s : State) : Answer :=
  if s.store.stage ≠ .loading then refuse s .state
  else
    match s.store.staged.commitFailure with
    | some (check, n) => { state := s, status := .range, results := u8 check ++ u8 n }
    | none => { state := { s with store := { s.store with stage := .armed version } }, status := .ok, results := [] }

/-- TARIFF_COMMIT (R25). -/
def execTariffCommit (p : Port) (version : BitVec 16) (s : State) : Result :=
  request p .tariffCommit (tariffCommit version) s

/-- The form byte and field bytes of an item of a set, none for a number out of range (R28, R203). -/
def TariffSet.item (t : TariffSet) (kind : ItemKind) (number : Byte) : Option (List Byte) :=
  match kind with
  | .tariff => (numberOf number).map (fun i => itemBytes tariffFields t.tariffs[i])
  | .extraKind => (numberOf number).map (fun i => itemBytes extraKindFields t.extraKinds[i])
  | .zoneRule => (ruleNumberOf number).map (fun i => itemBytes zoneRuleFields t.zoneRules[i])
  | .defaults => some (u8 1 ++ defaultsFields t)

/-- The version of a committed staged set (R28). -/
def Stage.version : Stage → Option (BitVec 16)
  | .armed v => some v
  | .activating v => some v
  | _ => none

/-- An item followed by the version's presence byte and the version (R203). -/
def withVersion (item : List Byte) (v : Option (BitVec 16)) : List Byte :=
  item ++ yesNo v.isSome ++ u16 (codeOrZero v)

/-- R28: RANGE for the set, the kind or the number; STATE for STAGED in IDLE; then the item. -/
def tariffRead (set itemKind number : Byte) (s : State) : Answer :=
  match flagOf set, itemKindOf itemKind with
  | some staged, some kind =>
    match (if staged then s.store.staged else s.store.active).item kind number with
    | none => refuse s .range
    | some item =>
      if staged = true ∧ s.store.stage = .idle then refuse s .state
      else
        { state := s, status := .ok
          results := withVersion item (if staged then s.store.stage.version else some s.store.activeVersion) }
  | _, _ => refuse s .range

/-- TARIFF_READ (R28). -/
def execTariffRead (p : Port) (set itemKind number : Byte) (s : State) : Result :=
  request p .tariffRead (tariffRead set itemKind number) s

/-! ## The calendar clock and the holiday flag (R29 to R31) -/

/-- The clock advanced by some seconds (R29, R31): past its maximum it becomes INVALID and goes on from 0; the holiday
flag clears when the clock reaches a new day while VALID (log 19). -/
def TariffStore.advance (t : TariffStore) (n : Nat) : TariffStore :=
  if t.clockInvalid then { t with clock := (t.clock + n) % 4294967296 }
  else
    { t with clock := (t.clock + n) % 4294967296
             clockInvalid := decide (max32 < t.clock + n)
             holiday := t.holiday && decide (min max32 (t.clock + n) / 86400 = t.clock / 86400) }

/-- A second of the calendar clock (R29, R31). -/
def clockSecond (s : State) : State := { s with store := s.store.advance 1 }

/-- CLOCK_SECOND (R29, R31). -/
def execClockSecond (s : State) : Result := event clockSecond s

/-- R30: the clock takes the value and becomes VALID; the reply gives what was held. -/
def setClock (value : Nat) (s : State) : Answer :=
  { state := { s with store := { s.store with clock := value, clockInvalid := false } }
    status := .ok, results := clockValue s.store.now }

/-- SET_CLOCK (R30). -/
def execSetClock (p : Port) (value : BitVec 32) (s : State) : Result := request p .setClock (setClock value.toNat) s

/-- R31: SET or CLEAR. -/
def setHoliday (value : Byte) (s : State) : Answer :=
  match flagOf value with
  | none => refuse s .range
  | some h => { state := { s with store := { s.store with holiday := h } }, status := .ok, results := [] }

/-- SET_HOLIDAY (R31). -/
def execSetHoliday (p : Port) (value : Byte) (s : State) : Result := request p .setHoliday (setHoliday value) s

/-! ## The zone (R33 to R37) -/

/-- Replace the zone state. -/
def State.setZone (s : State) (z : Zone) : State := { s with store := { s.store with zone := z } }

/-- The zone state after a GOOD report (R34). -/
def Zone.adopt (z : Zone) (code : BitVec 16) : Zone :=
  { z with known := true, lastCode := some code, uncertain := 0
           watch := if z.limit = 0 then none else some (z.limit * 250) }

/-- The uncertain count after one more UNCERTAIN report (R35). -/
def Zone.count (z : Zone) : Nat := satAdd 127 z.uncertain 1

/-- Whether an UNCERTAIN report makes the zone UNKNOWN (R35). -/
def Zone.loses (z : Zone) : Bool := decide (z.threshold ≠ 0) && z.known && decide (z.threshold ≤ z.count)

/-- The zone state after an UNCERTAIN report (R35). -/
def Zone.doubt (z : Zone) : Zone :=
  if z.loses then { z with uncertain := z.count, known := false, watch := none } else { z with uncertain := z.count }

/-- The zone state as a reply carries it, in the order of R33's table. DEDUCED (log 12): a stopped watch timer is carried as
0, without a presence bit; the bit of the last adopted code is log 14's. -/
def zoneResults (z : Zone) : List Byte :=
  presence [z.lastCode.isSome] ++ yesNo z.known ++ u16 (codeOrZero z.lastCode) ++ u8 z.uncertain ++
  u16 (timerValue z.watch) ++ u8 z.threshold ++ u8 z.limit

/-- R34 and R35: a GOOD report is adopted, an UNCERTAIN one counted. -/
def zoneReport (code : BitVec 16) (quality : Byte) (s : State) : Answer :=
  match flagOf quality with
  | none => refuse s .range
  | some false =>
    { state := (s.setZone (s.store.zone.adopt code)).raiseIf (decide (s.store.zone.lastCode ≠ some code)) .zoneChanged
      status := .ok, results := zoneResults (s.store.zone.adopt code) }
  | some true =>
    { state := (s.setZone s.store.zone.doubt).raiseIf s.store.zone.loses .zoneLost
      status := .ok, results := zoneResults s.store.zone.doubt }

/-- ZONE_REPORT (R34, R35). -/
def execZoneReport (p : Port) (code : BitVec 16) (quality : Byte) (s : State) : Result :=
  request p .zoneReport (zoneReport code quality) s

/-- R36: the watch timer has run out, and a KNOWN zone becomes UNKNOWN; a timer that a report restarted in the meantime has
not (log 5). -/
def zoneWatchExpiry (s : State) : State :=
  if s.store.zone.watch = some 0 then
    (s.setZone { s.store.zone with known := false, watch := none }).raiseIf s.store.zone.known .zoneLost
  else s

/-- ZONE_WATCH_EXPIRY (R36). -/
def execZoneWatchExpiry (s : State) : Result := event zoneWatchExpiry s

/-- R37: both settings; a limit of 0 stops the watch timer at once. -/
def setZoneWatch (threshold limit : Nat) (s : State) : Answer :=
  if 127 < threshold ∨ 15 < limit then refuse s .range
  else
    { state := s.setZone { s.store.zone with
        threshold := threshold, limit := limit, watch := if limit = 0 then none else s.store.zone.watch }
      status := .ok, results := [] }

/-- SET_ZONE_WATCH (R37). -/
def execSetZoneWatch (p : Port) (threshold limit : Byte) (s : State) : Result :=
  request p .setZoneWatch (setZoneWatch threshold.toNat limit.toNat) s

/-! ## TARIFF_STATUS (R39) -/

/-- The items of R39's table. -/
def tariffStatusResults (t : TariffStore) : List Byte :=
  presence [t.stage.version.isSome, t.zone.lastCode.isSome, t.matchingRule.isSome, t.zone.watch.isSome] ++
  u16 t.activeVersion.toNat ++ u8 (stageCode t.stage) ++ u16 (codeOrZero t.stage.version) ++ clockValue t.now ++
  u16 (minuteOfDay t.clock) ++ u8 (periodCode t.period) ++ yesNo t.holiday ++ yesNo t.zone.known ++ u8 t.zone.uncertain ++
  u16 (codeOrZero t.zone.lastCode) ++ u8 ((t.matchingRule.map Prod.fst).getD 0) ++ u16 (timerValue t.zone.watch) ++
  u8 t.zone.threshold ++ u8 t.zone.limit

/-- TARIFF_STATUS (R39). -/
def execTariffStatus (p : Port) (s : State) : Result :=
  request p .tariffStatus (fun s => { state := s, status := .ok, results := tariffStatusResults s.store }) s

end Sys2Proof.Machine
end

