-- ==== Sys2Proof/Machine/Power.lean ====
section
/-! DEFINITION. The loss of power (R120, R121) and the restart with its restore (R122 to R127). -/

namespace Sys2Proof.Machine

/-! ## What a loss of power finds of a completion (R121) -/

/-- The completion's first update: the entry stored, for CALIBRATION and TARIFF together with the replacement. -/
def State.firstUpdate (s : State) (e : Entry) : State :=
  match e.body with
  | .calibration _ _ _ _ _ => s.afterStored e
  | .tariff _ _ => s.afterStored e
  | _ => s

/-- A slot with its counted mark set (R80). -/
def State.markCounted (s : State) (i : Fin 4) : State :=
  s.setParty i ((s.party i).map (fun p => { p with counted := true }))

/-- The completion's second update: the trip counted and its slot marked, or the shift closed. -/
def State.secondUpdate (s : State) (e : Entry) : State :=
  match e.body with
  | .trip t => { s.markCounted t.slot with shift := s.shift.countTrip t }
  | .shift _ => { s with shift := s.shift.closeAt e.time }
  | _ => s.firstUpdate e

/-- The part as the array holds it when power falls at a cut. A cut inside a completion needs an append in flight;
without one it falls between steps (log 8). -/
def State.cutAt (s : State) (cut : PowerCut) : State :=
  match cut with
  | .betweenSteps => s
  | .afterFirstUpdate =>
    match s.storeHead with
    | none => s
    | some (e, t) => t.firstUpdate e
  | .afterSecondUpdate =>
    match s.storeHead with
    | none => s
    | some (e, t) => t.secondUpdate e

/-! ## Volatile state -/

/-- The measurement unit with its volatile state at its restart values (R17). -/
def Measurement.restarted (m : Measurement) : Measurement :=
  { m with raw := 0, closure := 0, last := WindowResult.zero, run := .idle, sealPin := m.sealPin.at m.sealPin.level }

/-- The zone state after a restart (R33). -/
def Zone.restarted (z : Zone) : Zone := { z with known := false, lastCode := none, uncertain := 0, watch := none }

/-- The payment unit after a restart (R108). -/
def Payment.restarted (y : Payment) : Payment := { y with session := none, recent := [], counter := 1, guardTimer := none }

/-- The record store with its queue emptied and its write discarded (R122). -/
def RecordStore.restarted (j : RecordStore) : RecordStore := { j with places := [], waiting := [], inFlight := false }

/-- The sign unit with its test stopped, its overrides, counts and latches cleared (R158). -/
def Sign.restarted (g : Sign) : Sign := { g with lamps := Vector.replicate 4 Lamp.restarted, test := none }

/-- A path after a restart: its gain and release delay kept (R182). DESIGN CHOICE (log 34): the held source sample (R159),
to which the spec gives no restart value, is absent. -/
def AudioLine.restarted (l : AudioLine) : AudioLine := { l with gate := .muted, held := none }

/-- The intercom unit after a restart (R182). -/
def Intercom.restarted (c : Intercom) : Intercom :=
  { c with
    codecs := ⟨Codec.restarted, Codec.restarted⟩
    paths := ⟨c.paths.frontToRear.restarted, c.paths.rearToFront.restarted⟩
    keys := ⟨false, false⟩
    keyPins := ⟨c.keyPins.driver.at c.keyPins.driver.level, c.keyPins.rear.at c.keyPins.rear.level⟩
    floor := none, claimant := none, floorTimer := none
    speakers := ⟨Speaker.restarted, Speaker.restarted⟩ }

/-- A port's notices with nothing pending, every source enabled and no message (R194). -/
def PortNotices.emptied : PortNotices := { pulses := 0, enabled := BitVec.allOnes 21, messages := [] }

/-- Every volatile value at its restart value; every persistent value, the clock with the place in its second (R29), and
the stage kept. -/
def State.dropVolatile (s : State) : State :=
  { s with
    meas := s.meas.restarted
    store := { s.store with zone := s.store.zone.restarted }
    pay := s.pay.restarted
    journal := s.journal.restarted
    sign := s.sign.restarted
    intercom := s.intercom.restarted
    notices := { s.notices with ports := ⟨PortNotices.emptied, PortNotices.emptied, PortNotices.emptied⟩ }
    ports := ⟨PortBuffers.restarted, PortBuffers.restarted, PortBuffers.restarted⟩
    windowMs := 0 }

/-- Main power fails: what the array holds stays, volatile state is lost (log 8). -/
def powerLoss (cut : PowerCut) (s : State) : State := { (s.cutAt cut).dropVolatile with powered := false }

/-- POWER_LOSS (R120, R121). -/
def execPowerLoss (cut : PowerCut) (s : State) : Result := event (powerLoss cut) s

/-! ## The clock and the stage at restart -/

/-- The calendar clock at restart, which stood at a millisecond of its second: advanced by the seconds that ended in the
time without power where the backup supply held, INVALID and 0 where it failed (R29, R31, log 9). -/
def TariffStore.recoverClock (t : TariffStore) (phase : Nat) : Backup → TariffStore
  | .held n => t.advance ((phase + n) / 1000)
  | .failed _ => { t with clock := 0, clockInvalid := true }

/-- The millisecond of its second at which the clock stands at restart. The seconds run on through the time without power
and are not aligned with the windows, which a restart begins (R2, R29, log 9). -/
def restartPhase (phase : Nat) : Backup → Nat
  | .held n => (phase + n) % 1000
  | .failed n => n % 1000

/-- An ACTIVATING stage is ARMED again with its version (R27). -/
def Stage.rearm : Stage → Stage
  | .activating v => .armed v
  | st => st

/-! ## The restore (R122 to R126) -/

/-- The body of a TRIP entry. -/
def EntryBody.trip? : EntryBody → Option TripEntry
  | .trip t => some t
  | _ => none

/-- A SHIFT entry's report, with its entry time. -/
def Entry.shift? (e : Entry) : Option (ShiftReport × Stamp) :=
  match e.body with
  | .shift r => some (r, e.time)
  | _ => none

/-- The newest stored TRIP entry (R123). -/
def RecordStore.newestTrip (j : RecordStore) : Option TripEntry := j.stored.reverse.findSome? (fun e => e.body.trip?)

/-- The newest stored SHIFT entry (R125). -/
def RecordStore.newestShift (j : RecordStore) : Option (ShiftReport × Stamp) := j.stored.reverse.findSome? Entry.shift?

/-- A CLOSING slot judged (R123): its trip counted unless it was, and the slot cleared; or its entry queued again. -/
def State.restoreClosing (s : State) (i : Fin 4) (p : Party) : State :=
  let requeued : State := { s with journal := s.journal.append (.trip (tripEntry s.meas.cal.k i p)) }
  match s.journal.newestTrip with
  | none => requeued
  | some t =>
    if t.hire = p.hire then
      { s.setParty i none with shift := if p.counted then s.shift else s.shift.countTrip t }
    else requeued

/-- A RUNNING, PAYING or STOPPED party restored (R124). -/
def Party.restored (p : Party) (now : Stamp) : Party :=
  match p.state with
  | .running => { p with state := .stopped, stopTime := some now, powerInterrupted := true, joining := false }
  | .paying => { p with state := .stopped, payment := none, joining := false }
  | _ => { p with joining := false }

/-- One slot restored (R123, R124). -/
def State.restoreSlot (s : State) (i : Fin 4) : State :=
  match s.party i with
  | none => s
  | some p => if p.state = .closing then s.restoreClosing i p else s.setParty i (some (p.restored s.store.now))

/-- A CLOSING shift judged (R125). -/
def State.restoreShift (s : State) : State :=
  if s.shift.state = .closing then
    let requeued : State := { s with journal := s.journal.append (.shift
      (s.shift.report (s.shift.number.getD 0) (s.shift.closingK.getD s.meas.cal.k) (s.shift.closingRate.getD 0) none)) }
    match s.journal.newestShift with
    | none => requeued
    | some (r, t) =>
      if s.shift.number = some r.number then ({ s with shift := s.shift.closeAt t } : State).raise .shiftClosed else requeued
  else s

/-- The power interruption counted in an OPEN shift, and POWER_RECOVERED raised (R126). -/
def State.countInterruption (s : State) : State :=
  ({ s with shift := s.shift.gain (fun c => { c with powerInterruptions := satAdd max32 c.powerInterruptions 1 }) } :
    State).raise .powerRecovered

/-- The restore (R122): the slots in number order, the shift, the interruption. -/
def State.restore (s : State) : State :=
  ((((s.restoreSlot 0).restoreSlot 1).restoreSlot 2).restoreSlot 3).restoreShift.countInterruption

/-- The sign's first derivation after restart (R158). -/
def State.firstSign (s : State) : State :=
  { s with sign := Sign.settleLamps { s.sign with
      state := s.deriveSign, phase := 0, period := s.store.period, level := s.sign.levelFor s.store.period } }

/-- The part as the restore finds it: volatile state at its restart values, the seal at its input's level (R17), the
talk-key inputs at their levels with both keys released (R169), the clock recovered with its second (R29), the stage
rearmed (R27). -/
def State.wake (s : State) (levels : InputLevels) (backup : Backup) : State :=
  let t := s.dropVolatile
  { t with
    meas := { t.meas with
      sealInput := levels.sealInput, sealState := levels.sealInput, sealPin := t.meas.sealPin.at levels.sealInput }
    intercom := { t.intercom with
      keyPins := ⟨t.intercom.keyPins.driver.at levels.driverKey, t.intercom.keyPins.rear.at levels.rearKey⟩ }
    store := { t.store.recoverClock t.secondMs backup with stage := t.store.stage.rearm }
    secondMs := restartPhase t.secondMs backup
    powered := true }

/-- R122: power-on, or the reset input (log 23). -/
def restart (levels : InputLevels) (backup : Backup) (s : State) : State :=
  (s.wake levels backup).restore.firstSign

/-- RESTART (R122). -/
def execRestart (levels : InputLevels) (backup : Backup) (s : State) : Result :=
  .next (restart levels backup s)

end Sys2Proof.Machine
end

