-- ==== Sys2Proof/Machine/Shifts.lean ====
section
/-! DEFINITION. Chapter 7: opening, previewing and closing a shift, the fleet settings, the totalizers. -/

namespace Sys2Proof.Machine

/-! ## SHIFT_OPEN (R133) -/

/-- The shift record opened for a driver (R133). -/
def Shift.openFor (u : Shift) (driver : Nat) (now : Stamp) : Shift :=
  { u with state := .opened, driver := some driver, openTime := some now, closeTime := none, closingRate := none
           closingK := none, counters := Counters.zero, limitReached := false }

/-- R133: the checks in their order. -/
def shiftOpen (driver : Nat) (s : State) : Answer :=
  if driver < 1 ∨ 999999 < driver then refuse s .range
  else if s.shift.state = .closing then refuse s .busy
  else if s.shift.state = .opened then refuse s .state
  else if s.meas.run.isAdopting then refuse s .busy
  else if s.journal.free < 1 then refuse s .full
  else
    match s.shift.number with
    | none => refuse s .full
    | some n =>
      { state := State.updateSign { s with shift := s.shift.openFor driver s.store.now }
        status := .ok, results := u32 n ++ u32 driver ++ clockValue s.store.now }

/-- SHIFT_OPEN (R133). -/
def execShiftOpen (p : Port) (driver : BitVec 32) (s : State) : Result := request p .shiftOpen (shiftOpen driver.toNat) s

/-! ## SHIFT_CLOSE (R134) -/

/-- The report that an accepted SHIFT_CLOSE queues: the commission rate in force, no close time (R134, R138). -/
def State.closingReport (s : State) : ShiftReport :=
  s.shift.report (s.shift.number.getD 0) s.meas.cal.k s.shift.commission none

/-- R134: the checks in their order, then the entry queued, the rate frozen and the shift CLOSING. -/
def shiftClose (s : State) : Answer :=
  if s.shift.state = .closing then refuse s .busy
  else if s.shift.state = .closed then refuse s .state
  else if s.nonVacant ≠ 0 then refuse s .busy
  else
    { state := State.updateSign { s with
        shift := { s.shift with state := .closing, closingRate := some s.shift.commission, closingK := some s.meas.cal.k }
        journal := s.journal.append (.shift s.closingReport)
        table := { s.table with onCall := false } }
      status := .ok, results := reportBytes s.closingReport }

/-- SHIFT_CLOSE (R134). -/
def execShiftClose (p : Port) (s : State) : Result := request p .shiftClose shiftClose s

/-! ## SHIFT_PREVIEW (R137) -/

/-- The shift number of the last closed shift, where one has closed (R137). -/
def lastClosed : Option Nat → Option Nat
  | none => some max32
  | some n => if n ≤ 1 then none else some (n - 1)

/-- The report of the record in its state (R137). -/
def State.preview (s : State) : Option ShiftReport :=
  match s.shift.state with
  | .opened => some (s.shift.report (s.shift.number.getD 0) s.meas.cal.k s.shift.commission (some s.store.now))
  | .closing =>
    some (s.shift.report (s.shift.number.getD 0) (s.shift.closingK.getD s.meas.cal.k) (s.shift.closingRate.getD 0) none)
  | .closed =>
    (lastClosed s.shift.number).map (fun n =>
      s.shift.report n (s.shift.closingK.getD s.meas.cal.k) (s.shift.closingRate.getD 0) s.shift.closeTime)

/-- R137: the shift state and the report; STATE where no shift has yet closed. -/
def shiftPreview (s : State) : Answer :=
  match s.preview with
  | none => refuse s .state
  | some r =>
    { state := s, status := .ok
      results := presence [r.closeTime.isSome] ++ u8 (shiftStateCode s.shift.state) ++ reportItems r }

/-- SHIFT_PREVIEW (R137). -/
def execShiftPreview (p : Port) (s : State) : Result := request p .shiftPreview shiftPreview s

/-! ## Fleet settings (R140) -/

/-- R140: the commission rate. -/
def setCommission (rate : Nat) (s : State) : Answer :=
  if 1000 < rate then refuse s .range
  else
    { state := { s with shift := { s.shift with commission := rate } }
      status := .ok, results := u16 s.shift.commission ++ u16 rate }

/-- SET_COMMISSION (R140). -/
def execSetCommission (p : Port) (rate : BitVec 16) (s : State) : Result :=
  request p .setCommission (setCommission rate.toNat) s

/-- R140: the offline cap. -/
def setOfflineCap (cap : Nat) (s : State) : Answer :=
  if 999999 < cap then refuse s .range
  else
    { state := { s with shift := { s.shift with offlineCap := cap } }
      status := .ok, results := u32 s.shift.offlineCap ++ u32 cap }

/-- SET_OFFLINE_CAP (R140). -/
def execSetOfflineCap (p : Port) (cap : BitVec 32) (s : State) : Result :=
  request p .setOfflineCap (setOfflineCap cap.toNat) s

/-- R140: the tip cap. -/
def setTipCap (cap : Nat) (s : State) : Answer :=
  if 1000 < cap then refuse s .range
  else
    { state := { s with shift := { s.shift with tipCap := cap } }, status := .ok, results := u16 s.shift.tipCap ++ u16 cap }

/-- SET_TIP_CAP (R140). -/
def execSetTipCap (p : Port) (cap : BitVec 16) (s : State) : Result := request p .setTipCap (setTipCap cap.toNat) s

/-- R140: the hold limit. -/
def setHoldLimit (limit : Nat) (s : State) : Answer :=
  if limit < 10 ∨ 600 < limit then refuse s .range
  else
    { state := { s with shift := { s.shift with holdLimit := limit } }
      status := .ok, results := u16 s.shift.holdLimit ++ u16 limit }

/-- SET_HOLD_LIMIT (R140). -/
def execSetHoldLimit (p : Port) (limit : BitVec 16) (s : State) : Result :=
  request p .setHoldLimit (setHoldLimit limit.toNat) s

/-! ## READ_TOTALIZERS (R145) -/

/-- The items of R145. -/
def totalizerResults (s : State) : List Byte :=
  let t := s.shift.totals
  u32 t.distance ++ u32 t.hiredDistance ++ u16 t.totalRemainder ++ u16 t.hiredRemainder ++ u32 t.trips ++ u32 t.fares ++
  u32 s.meas.cal.count ++ u16 s.meas.cal.k

/-- READ_TOTALIZERS (R145). -/
def execReadTotalizers (p : Port) (s : State) : Result :=
  request p .readTotalizers (fun s => { state := s, status := .ok, results := totalizerResults s }) s

end Sys2Proof.Machine
end

