-- ==== Sys2Proof/Machine/Signs.lean ====
section
/-! DEFINITION. Chapter 8: brightness, lamp test, lamp faults, the phase timer and the reading of the sign. -/

namespace Sys2Proof.Machine

/-! ## SET_BRIGHTNESS (R150) -/

/-- The sign with both levels replaced, and the level in use that follows at once (R149, R150); a modulation period that
runs keeps the on-slot count it began with. -/
def Sign.setLevels (g : Sign) (day night : Nat) : Sign :=
  let h : Sign := { g with dayLevel := max 40 day, nightLevel := max 40 night }
  { h with level := h.levelFor g.period }

/-- R150: RANGE above 100; a level below 40 is raised to 40 and named. -/
def setBrightness (day night : Nat) (s : State) : Answer :=
  if 100 < day ∨ 100 < night then refuse s .range
  else
    let g := s.sign.setLevels day night
    { state := { s with sign := g }
      status := if day < 40 ∨ night < 40 then .clamped else .ok
      results := presence [decide (day < 40), decide (night < 40)] ++ u8 (if day < 40 then 40 else 0) ++
        u8 (if night < 40 then 40 else 0) ++ u8 g.dayLevel ++ u8 g.nightLevel ++ u16 (onSlots g.level) }

/-- SET_BRIGHTNESS (R150). -/
def execSetBrightness (p : Port) (day night : Byte) (s : State) : Result :=
  request p .setBrightness (setBrightness day.toNat night.toNat) s

/-! ## LAMP_TEST (R151 to R153) -/

/-- The override of channel `i` among four. -/
def overrideAt (a b c d : Override) : Nat → Override
  | 0 => a
  | 1 => b
  | 2 => c
  | _ => d

/-- The sign with four overrides set; the test timer starts with 10 s, or stops where all are NORMAL (R151). -/
def Sign.force (g : Sign) (a b c d : Override) : Sign :=
  Sign.settleLamps { g with
    lamps := mapVectorIdx (fun i l => { l with override := overrideAt a b c d i }) g.lamps
    test := if a = .normal ∧ b = .normal ∧ c = .normal ∧ d = .normal then none else some Config.lampTestMs }

/-- R151: RANGE for a setting, STATE for a non-vacant slot, then the overrides. -/
def lampTest (free hired share off : Byte) (s : State) : Answer :=
  match overrideOf free, overrideOf hired, overrideOf share, overrideOf off with
  | some a, some b, some c, some d =>
    if s.nonVacant ≠ 0 then refuse s .state
    else
      { state := { s with sign := s.sign.force a b c d }, status := .ok
        results := u8 (overrideCode a) ++ u8 (overrideCode b) ++ u8 (overrideCode c) ++ u8 (overrideCode d) }
  | _, _, _, _ => refuse s .range

/-- LAMP_TEST (R151). -/
def execLampTest (p : Port) (free hired share off : Byte) (s : State) : Result :=
  request p .lampTest (lampTest free hired share off) s

/-- R153: the test timer has run out (log 5). -/
def testTimerExpiry (s : State) : State := if s.sign.test = some 0 then { s with sign := s.sign.endTest } else s

/-- TEST_TIMER_EXPIRY (R153). -/
def execTestTimerExpiry (s : State) : Result := event testTimerExpiry s

/-! ## LAMP_CLEAR (R157) -/

/-- The sign with every latch and dark-sample count cleared (R157). -/
def Sign.clearFaults (g : Sign) : Sign :=
  { g with lamps := mapVector (fun l => { l with dark := 0, latch := false }) g.lamps }

/-- R157: the reply names the channels whose latches were set (log 15). -/
def lampClear (s : State) : Answer :=
  { state := { s with sign := s.sign.clearFaults }, status := .ok
    results := s.sign.lamps.toArray.toList.flatMap (fun l => yesNo l.latch) }

/-- LAMP_CLEAR (R157). -/
def execLampClear (p : Port) (s : State) : Result := request p .lampClear lampClear s

/-! ## The phase timer (R148) -/

/-- R148: the phase timer reaches the end of the on or off phase of the BLINK or STROBE channel, and wraps at 1,000;
without such a channel no phase changes (log 7). -/
def lampPhaseChange (s : State) : State :=
  match s.sign.phaseEnd with
  | some t => { s with sign := Sign.settleLamps { s.sign with phase := t % 1000 } }
  | none => s

/-- LAMP_PHASE_CHANGE (R148). -/
def execLampPhaseChange (s : State) : Result := event lampPhaseChange s

/-! ## READ_SIGN (R158) -/

/-- A channel's items in READ_SIGN: mode, override, on phase, dark-sample count, fault latch (R158). -/
def channelBytes (g : Sign) (i : Nat) (l : Lamp) : List Byte :=
  u8 (channelModeCode (channelMode g.state i)) ++ u8 (overrideCode l.override) ++ yesNo (g.channelLit i l) ++ u8 l.dark ++
  yesNo l.latch

/-- The items of R158. -/
def signResults (g : Sign) : List Byte :=
  u8 (signCode g.state) ++ u16 g.phase ++ (mapFrom (channelBytes g) 0 g.lamps.toArray.toList).flatten ++
  u16 (timerValue g.test) ++ u8 g.dayLevel ++ u8 g.nightLevel ++ u8 (periodCode g.period) ++ u16 (onSlots g.level)

/-- READ_SIGN (R158). -/
def execReadSign (p : Port) (s : State) : Result :=
  request p .readSign (fun s => { state := s, status := .ok, results := signResults s.sign }) s

end Sys2Proof.Machine
end

