-- ==== Sys2Proof/Machine/Dispatch.lean ====
section
/-! DEFINITION. The dispatch: one arm for each row of spec/opcode_table.json. -/

namespace Sys2Proof.Machine

def exec (i : Instr) (s : State) : Host.Outcome State Fault Refusal :=
  match i with
  | .readMotion p => Sys2Proof.Machine.execReadMotion p s
  | .setStopInterlock p speed => Sys2Proof.Machine.execSetStopInterlock p speed s
  | .calBegin p course => Sys2Proof.Machine.execCalBegin p course s
  | .calMark p => Sys2Proof.Machine.execCalMark p s
  | .calAbort p => Sys2Proof.Machine.execCalAbort p s
  | .calAdopt p ceiling => Sys2Proof.Machine.execCalAdopt p ceiling s
  | .tariffBegin p => Sys2Proof.Machine.execTariffBegin p s
  | .tariffItem p itemKind number form fields => Sys2Proof.Machine.execTariffItem p itemKind number form fields s
  | .tariffCommit p version => Sys2Proof.Machine.execTariffCommit p version s
  | .tariffRead p set itemKind number => Sys2Proof.Machine.execTariffRead p set itemKind number s
  | .setClock p value => Sys2Proof.Machine.execSetClock p value s
  | .setHoliday p value => Sys2Proof.Machine.execSetHoliday p value s
  | .zoneReport p code quality => Sys2Proof.Machine.execZoneReport p code quality s
  | .setZoneWatch p threshold limit => Sys2Proof.Machine.execSetZoneWatch p threshold limit s
  | .tariffStatus p => Sys2Proof.Machine.execTariffStatus p s
  | .startHire p pin => Sys2Proof.Machine.execStartHire p pin s
  | .stopHire p slot => Sys2Proof.Machine.execStopHire p slot s
  | .resumeHire p slot => Sys2Proof.Machine.execResumeHire p slot s
  | .addExtra p slot kind amount => Sys2Proof.Machine.execAddExtra p slot kind amount s
  | .pinTariff p slot tariff => Sys2Proof.Machine.execPinTariff p slot tariff s
  | .readParty p slot => Sys2Proof.Machine.execReadParty p slot s
  | .listParties p => Sys2Proof.Machine.execListParties p s
  | .setDuty p value => Sys2Proof.Machine.execSetDuty p value s
  | .setOnCall p value => Sys2Proof.Machine.execSetOnCall p value s
  | .setSeatLimit p limit => Sys2Proof.Machine.execSetSeatLimit p limit s
  | .payOpen p slot => Sys2Proof.Machine.execPayOpen p slot s
  | .payTip p payment hire tip => Sys2Proof.Machine.execPayTip p payment hire tip s
  | .pinState p value => Sys2Proof.Machine.execPinState p value s
  | .setPinGuard p time => Sys2Proof.Machine.execSetPinGuard p time s
  | .payResult p payment hire outcome amount reference => Sys2Proof.Machine.execPayResult p payment hire outcome amount reference s
  | .cashSettle p slot amount => Sys2Proof.Machine.execCashSettle p slot amount s
  | .readPayment p => Sys2Proof.Machine.execReadPayment p s
  | .journalRead p seq => Sys2Proof.Machine.execJournalRead p seq s
  | .journalAck p seq => Sys2Proof.Machine.execJournalAck p seq s
  | .journalStatus p => Sys2Proof.Machine.execJournalStatus p s
  | .shiftOpen p driver => Sys2Proof.Machine.execShiftOpen p driver s
  | .shiftClose p => Sys2Proof.Machine.execShiftClose p s
  | .shiftPreview p => Sys2Proof.Machine.execShiftPreview p s
  | .setCommission p rate => Sys2Proof.Machine.execSetCommission p rate s
  | .setOfflineCap p cap => Sys2Proof.Machine.execSetOfflineCap p cap s
  | .setTipCap p cap => Sys2Proof.Machine.execSetTipCap p cap s
  | .setHoldLimit p limit => Sys2Proof.Machine.execSetHoldLimit p limit s
  | .readTotalizers p => Sys2Proof.Machine.execReadTotalizers p s
  | .setBrightness p day night => Sys2Proof.Machine.execSetBrightness p day night s
  | .lampTest p free hired share off => Sys2Proof.Machine.execLampTest p free hired share off s
  | .lampClear p => Sys2Proof.Machine.execLampClear p s
  | .readSign p => Sys2Proof.Machine.execReadSign p s
  | .setPathGain p path gain delay => Sys2Proof.Machine.execSetPathGain p path gain delay s
  | .setIntercomMode p mode => Sys2Proof.Machine.execSetIntercomMode p mode s
  | .setIntercomMute p mute privacy => Sys2Proof.Machine.execSetIntercomMute p mute privacy s
  | .setTalkOverride p value => Sys2Proof.Machine.execSetTalkOverride p value s
  | .playTone p tone speaker => Sys2Proof.Machine.execPlayTone p tone speaker s
  | .readIntercom p => Sys2Proof.Machine.execReadIntercom p s
  | .readNotices p option => Sys2Proof.Machine.execReadNotices p option s
  | .clearNotices p sources => Sys2Proof.Machine.execClearNotices p sources s
  | .setNoticeEnable p sources => Sys2Proof.Machine.execSetNoticeEnable p sources s
  | .readRoutes p => Sys2Proof.Machine.execReadRoutes p s
  | .setRoute p source ports => Sys2Proof.Machine.execSetRoute p source ports s
  | .postMessage p target text => Sys2Proof.Machine.execPostMessage p target text s
  | .takeMessage p => Sys2Proof.Machine.execTakeMessage p s
  | .frameDiscarded p received => Sys2Proof.Machine.execFrameDiscarded p received s
  | .formatReply p received => Sys2Proof.Machine.execFormatReply p received s
  | .replyRead p clocked => Sys2Proof.Machine.execReplyRead p clocked s
  | .distancePulse => Sys2Proof.Machine.execDistancePulse s
  | .windowClose sense => Sys2Proof.Machine.execWindowClose sense s
  | .sealClose => Sys2Proof.Machine.execSealClose s
  | .sealOpen => Sys2Proof.Machine.execSealOpen s
  | .clockSecond => Sys2Proof.Machine.execClockSecond s
  | .zoneWatchExpiry => Sys2Proof.Machine.execZoneWatchExpiry s
  | .sessionExpiry => Sys2Proof.Machine.execSessionExpiry s
  | .pinGuardExpiry => Sys2Proof.Machine.execPinGuardExpiry s
  | .testTimerExpiry => Sys2Proof.Machine.execTestTimerExpiry s
  | .lampPhaseChange => Sys2Proof.Machine.execLampPhaseChange s
  | .releaseTimerExpiry path => Sys2Proof.Machine.execReleaseTimerExpiry path s
  | .talkKeyPress side => Sys2Proof.Machine.execTalkKeyPress side s
  | .talkKeyRelease side => Sys2Proof.Machine.execTalkKeyRelease side s
  | .floorTimerExpiry => Sys2Proof.Machine.execFloorTimerExpiry s
  | .codecFrame port mic => Sys2Proof.Machine.execCodecFrame port mic s
  | .toneEnd port mic => Sys2Proof.Machine.execToneEnd port mic s
  | .appendWriteStart => Sys2Proof.Machine.execAppendWriteStart s
  | .appendComplete => Sys2Proof.Machine.execAppendComplete s
  | .powerLoss cut => Sys2Proof.Machine.execPowerLoss cut s
  | .restart levels backup => Sys2Proof.Machine.execRestart levels backup s

end Sys2Proof.Machine
end

