-- ==== Sys2Proof/Machine/Ticks.lean ====
section
/-! DEFINITION. What an idle step does (log 3): one millisecond of the crystal passes. The timers count down and the lamps
move on; at its 100th millisecond the window closes, at the 1,000th the clock second passes; an input that has been stable
for its debounce time is taken; and a timer that runs out puts its expiry's command in the queue. -/

namespace Sys2Proof.Machine

/-- A running timer one millisecond on; it stays running at 0 until its expiry is taken. -/
def tickTimer (t : Option Nat) : Option Nat := t.map (· - 1)

/-- The 4 µs slots of one millisecond (R149). -/
abbrev slotsPerMs : Nat := 250

/-- A modulation period one millisecond on: where it ends, the next one begins with the on-slot count then in use
(R149, R150). -/
def Modulation.tick (m : Modulation) (width : Nat) : Modulation :=
  if m.slot + slotsPerMs < 256 then { m with slot := m.slot + slotsPerMs }
  else { slot := m.slot + slotsPerMs - 256, width := width }

/-- The sign unit one millisecond on (R148, R149): the phase timer counts and wraps, and each lamp follows its channel's
phase; one that stays in its on phase moves on in its modulation period. -/
def Sign.tick (g : Sign) : Sign :=
  Sign.settleLamps { g with
    phase := (g.phase + 1) % 1000
    test := tickTimer g.test
    lamps := mapVector (fun l => { l with period := l.period.map (·.tick (onSlots g.level)) }) g.lamps }

/-- A gate's release timer one millisecond on (R165). -/
def Gate.tick : Gate → Gate
  | .releasing n => .releasing (n - 1)
  | g => g

/-- The intercom unit one millisecond on; the talk-key inputs are followed (R169). -/
def Intercom.tick (c : Intercom) : Intercom :=
  { c with
    paths := ⟨{ c.paths.frontToRear with gate := c.paths.frontToRear.gate.tick },
              { c.paths.rearToFront with gate := c.paths.rearToFront.gate.tick }⟩
    floorTimer := tickTimer c.floorTimer
    keyPins := ⟨c.keyPins.driver.tick c.keys.driver, c.keyPins.rear.tick c.keys.rear⟩ }

/-- The measurement unit one millisecond on; the seal input is followed (R9). -/
def Measurement.tick (m : Measurement) : Measurement := { m with sealPin := m.sealPin.tick m.sealInput }

/-- The payment unit one millisecond on. -/
def Payment.tick (y : Payment) : Payment :=
  { y with session := y.session.map (fun x => { x with timeLeft := x.timeLeft - 1 })
           guardTimer := tickTimer y.guardTimer }

/-- Every counter of the crystal one millisecond on; the window's count returns to 0 at its 100th millisecond and the clock
second's at its 1,000th (R2, R29). -/
def State.advance (s : State) : State :=
  { s with
    windowMs := (s.windowMs + 1) % Config.windowMs
    secondMs := (s.secondMs + 1) % 1000
    meas := s.meas.tick
    store := { s.store with zone := { s.store.zone with watch := tickTimer s.store.zone.watch } }
    pay := s.pay.tick
    sign := s.sign.tick
    intercom := s.intercom.tick }

/-- The events that the crystal makes at every window and every second, in the order in which the model takes them when
both fall in one millisecond (log 4). -/
def State.periodic (s : State) : State :=
  let t := if s.windowMs = 0 then windowClose s.sign.sense s else s
  if t.secondMs = 0 then clockSecond t else t

/-- The changes of the debounced inputs that fall in the millisecond, in the order in which the model takes them (log 4):
the seal (R9), the driver's key, the rear key (R169). -/
def State.debounced (s : State) : State := keyDebounced .rear (keyDebounced .driver (sealDebounced s))

/-- A command that is due, or none. -/
def due (c : Bool) (i : Instr) : List Instr := if c then [i] else []

/-- The expiries of the timers that have run out, in the order in which the model queues them (log 4). -/
def State.expiries (s : State) : List Instr :=
  due (decide (s.store.zone.watch = some 0)) .zoneWatchExpiry ++
  due s.pay.expired.isSome .sessionExpiry ++
  due (decide (s.pay.guardTimer = some 0)) .pinGuardExpiry ++
  due (decide (s.sign.test = some 0)) .testTimerExpiry ++
  due (decide (s.intercom.paths.frontToRear.gate = .releasing 0)) (.releaseTimerExpiry .frontToRear) ++
  due (decide (s.intercom.paths.rearToFront.gate = .releasing 0)) (.releaseTimerExpiry .rearToFront) ++
  due (decide (s.intercom.floorTimer = some 0)) .floorTimerExpiry

/-- One millisecond of the crystal; without main power nothing runs. -/
def tick (s : State) : State :=
  if s.powered then
    let t := s.advance.periodic.debounced
    { t with pending := t.pending ++ t.expiries }
  else s

end Sys2Proof.Machine
end

