-- ==== Sys2Proof/Safety.lean ====
section
/-! DEFINITION. What a sound state of the part is: the relations between its registers that the rules promise to hold
between any two commands, in the words the statements use. -/

namespace Sys2Proof.Machine

/-- Every route contains its source's mandatory minimum (R190). -/
def State.RoutesHoldMinimums (s : State) : Prop :=
  ∀ i : Fin 20, PortSet.diff mandatoryMinimums[i] s.notices.routes[i] = PortSet.empty

/-- The volatile queues are within their places: messages (R192), waiting tones (R177), recent sessions (R87). -/
def State.QueuesFit (s : State) : Prop :=
  s.notices.ports.console.messages.length ≤ 4 ∧ s.notices.ports.partition.messages.length ≤ 4 ∧
  s.notices.ports.fleet.messages.length ≤ 4 ∧ s.intercom.speakers.front.waiting.length ≤ 4 ∧
  s.intercom.speakers.rear.waiting.length ≤ 4 ∧ s.pay.recent.length ≤ 4

/-- A path's gate is MUTED exactly while a mute factor of the path is active (R165). -/
def State.GatesFollowFactors (s : State) : Prop :=
  ((s.factors .frontToRear).any = true ↔ s.intercom.paths.frontToRear.gate = .muted) ∧
  ((s.factors .rearToFront).any = true ↔ s.intercom.paths.rearToFront.gate = .muted)

/-- The sign in force is the one R146 derives, while the part is powered (R147). -/
def State.SignIsDerived (s : State) : Prop := s.powered = true → s.sign.state = s.deriveSign

/-- While the part is powered a lamp runs a modulation period exactly in its channel's on phase, and stands at one of its
256 slots (R149). -/
def State.LampsFollowPhases (s : State) : Prop :=
  s.powered = true → ∀ i : Fin 4, (s.sign.lamps[i]).period.isSome = s.sign.channelLit i s.sign.lamps[i] ∧
    ∀ m, (s.sign.lamps[i]).period = some m → m.slot < 256

/-- A PAYING party is the open session's, and the open session's party is PAYING under its numbers (R85). -/
def State.SessionLocksItsParty (s : State) : Prop :=
  s.powered = true →
    (∀ i : Fin 4, ∀ p, s.party i = some p → p.state = .paying → s.pay.session.map (·.slot) = some i) ∧
    (∀ x, s.pay.session = some x → ∃ p, s.party x.slot = some p ∧ p.state = .paying ∧ p.hire = x.hire ∧
      p.payment = some x.payment)

/-- Whether a body is the TRIP entry of a slot. -/
def EntryBody.isTripAt (i : Fin 4) : EntryBody → Bool
  | .trip e => decide (e.slot = i)
  | _ => false

/-- While the part is powered each CLOSING slot has its one TRIP entry queued, under its hire number, and no other slot has
any (R78, R80). -/
def State.ClosingSlotsAreQueued (s : State) : Prop :=
  s.powered = true →
    (∀ i : Fin 4, (s.journal.places ++ s.journal.waiting).countP (EntryBody.isTripAt i) =
      (if slotIn .closing (s.party i) then 1 else 0)) ∧
    (∀ e, .trip e ∈ s.journal.places ++ s.journal.waiting → (s.party e.slot).map (·.hire) = some e.hire)

/-- Whether a slot's TRIP entry is still to be queued: the slot is non-vacant, and it is not a CLOSING slot whose entry is
queued, or is the newest stored TRIP entry, which the restore will find (R115, R118, R123). -/
def State.tripToCome (s : State) (i : Fin 4) : Bool :=
  match s.party i with
  | none => false
  | some p => !(decide (p.state = .closing) &&
      ((s.journal.places ++ s.journal.waiting).any (EntryBody.isTripAt i) ||
        decide (s.journal.newestTrip.map (·.hire) = some p.hire)))

/-- The non-vacant slots stay within the seat limit, and the seat limit within 1 to 4 (R63). -/
def State.SeatsFit (s : State) : Prop := s.nonVacant ≤ s.table.seatLimit ∧ 1 ≤ s.table.seatLimit ∧ s.table.seatLimit ≤ 4

/-- A tariff record within the ranges of R18. -/
def Tariff.InRange (t : Tariff) : Prop :=
  t.flagFall ≤ 99999 ∧ t.prepaid ≤ 255 ∧ 1 ≤ t.stepAmount ∧ t.stepAmount ≤ 100000 ∧ 1 ≤ t.distanceStep ∧
  t.distanceStep ≤ 2000 ∧ 1 ≤ t.timeStep ∧ t.timeStep ≤ 600 ∧ 1 ≤ t.f1 ∧ t.f1 ≤ 256 ∧ 1 ≤ t.f2 ∧ t.f2 ≤ 256 ∧
  1 ≤ t.f3 ∧ t.f3 ≤ 256 ∧ 1 ≤ t.f4 ∧ t.f4 ≤ 256

/-- Every present tariff of a set is within its ranges (R18). -/
def TariffSet.InRange (t : TariffSet) : Prop := ∀ i : Fin 8, ∀ r, t.tariffs[i] = some r → r.InRange

/-- A party's money: the fare within its limit (R57), the tenders within the amount due (R84), and the lists within their
places (R52, R84). -/
def Party.MoneyFits (p : Party) : Prop :=
  p.fare ≤ moneyMax ∧ tendersTotal p.tenders ≤ p.due ∧ p.tenders.length ≤ 4 ∧ p.extras.length ≤ 8

/-- Every party's money fits, and every tariff that can set or raise a fare is within its ranges. -/
def State.MoneyFits (s : State) : Prop :=
  s.store.active.InRange ∧ s.store.staged.InRange ∧ ∀ i : Fin 4, ∀ p, s.party i = some p → p.MoneyFits

/-- The stored entries carry consecutive numbers up to the last number given (R109). -/
def State.SequenceIsGapless (s : State) : Prop :=
  s.journal.stored.length < s.journal.nextSeq ∧
  s.journal.stored.map (·.seq) = List.range' (s.journal.nextSeq - s.journal.stored.length) s.journal.stored.length

/-- Whether a body is a SHIFT entry. -/
def EntryBody.isShift : EntryBody → Bool
  | .shift _ => true
  | _ => false

/-- Whether a body is a TARIFF entry. -/
def EntryBody.isTariff : EntryBody → Bool
  | .tariff _ _ => true
  | _ => false

/-- A slot is non-vacant only while the shift is OPEN, and a shift that is not CLOSED has a number; while the part is powered
the SHIFT entry of a CLOSING shift is queued, once, under that number, and none is queued in another state (R128, R134). -/
def State.ShiftCoversHires (s : State) : Prop :=
  (s.shift.state ≠ .opened → s.nonVacant = 0) ∧ (s.shift.state ≠ .closed → s.shift.number.isSome = true) ∧
  (s.powered = true →
    (s.journal.places ++ s.journal.waiting).countP EntryBody.isShift = (if s.shift.state = .closing then 1 else 0) ∧
    ∀ r, .shift r ∈ s.journal.places ++ s.journal.waiting → s.shift.number = some r.number)

/-- Whether the shift's SHIFT entry is still to be queued: the shift is OPEN, or it is CLOSING and its entry is neither
queued nor the newest stored SHIFT entry, which the restore will find (R115, R125). -/
def State.reportToCome (s : State) : Bool :=
  match s.shift.state with
  | .opened => true
  | .closed => false
  | .closing => !((s.journal.places ++ s.journal.waiting).any EntryBody.isShift ||
      decide (s.journal.newestShift.map (fun x => some x.1.number) = some s.shift.number))

/-- The entries that the part has still to queue for its hires and its shift (R115). -/
def State.toCome (s : State) : Nat := (List.finRange 4).countP s.tripToCome + (if s.reportToCome then 1 else 0)

/-- The journal keeps a place, and a sequence number, for every entry that the part has still to queue for its hires and its
shift (R115). -/
def State.ReserveFits (s : State) : Prop :=
  s.journal.stored.length + s.journal.queued + s.toCome ≤ Config.journalCapacity ∧
  s.journal.nextSeq + s.journal.queued + s.toCome ≤ 4294967296

/-- The active set passes the commit's checks, and so does a committed staged set (R25); a TARIFF entry is queued only
while the stage is ACTIVATING, one at most (R26). -/
def State.CommittedSetsAreComplete (s : State) : Prop :=
  s.store.active.commitFailure = none ∧
  (s.store.stage.version.isSome = true → s.store.staged.commitFailure = none) ∧
  (s.store.stage = .idle → s.store.staged = TariffSet.empty) ∧
  (s.journal.places ++ s.journal.waiting).countP EntryBody.isTariff ≤ (if s.store.stage.isActivating then 1 else 0)

/-- While the seal state is CLOSED no calibration run is in progress (R9). -/
def State.SealStopsCalibration (s : State) : Prop :=
  s.meas.sealState = .closed → s.meas.run = .idle ∧ s.meas.sealInput = .closed

/-- An input is counted as stable for less than its debounce time, and only at a level other than the debounced one. -/
def Pin.Waits {α : Type} (x : Pin α) (debounced : α) (limit : Nat) : Prop :=
  x.stable < limit ∧ (x.stable ≠ 0 → x.level ≠ debounced)

/-- The debounced inputs: a change of the seal input is taken at 50 ms (R9), of a talk key's at 30 ms (R169). -/
def State.InputsAreDebounced (s : State) : Prop :=
  s.meas.sealPin.Waits s.meas.sealInput 50 ∧ s.intercom.keyPins.driver.Waits s.intercom.keys.driver 30 ∧
  s.intercom.keyPins.rear.Waits s.intercom.keys.rear 30

/-- The floor is held in HALF_DUPLEX alone, its timer runs exactly while it is held, and a claimant is the side that does
not hold it (R167, R170, R173). -/
def State.FloorIsConsistent (s : State) : Prop :=
  (s.intercom.floor.isSome = true → s.intercom.mode = .halfDuplex) ∧
  (s.intercom.floorTimer.isSome = s.intercom.floor.isSome) ∧
  (∀ c, s.intercom.claimant = some c → s.intercom.floor = some (otherSide c))

/-- A dark-sample count stands at 3 only with its latch set (R155, R156). -/
def State.LampsLatchAtThree (s : State) : Prop :=
  ∀ i : Fin 4, (s.sign.lamps[i]).dark ≤ 3 ∧ ((s.sign.lamps[i]).dark = 3 → (s.sign.lamps[i]).latch = true)

/-- The lamp levels are legible and the level in use is the one of the period in use (R149, R150). -/
def State.LevelsAreLegal (s : State) : Prop :=
  40 ≤ s.sign.dayLevel ∧ s.sign.dayLevel ≤ 100 ∧ 40 ≤ s.sign.nightLevel ∧ s.sign.nightLevel ≤ 100 ∧
  s.sign.level = s.sign.levelFor s.sign.period

end Sys2Proof.Machine
end

