-- ==== Sys2Proof/WellFormed.lean ====
section
/-! DEFINITION. Which commands a port or the vehicle can give at all. The operands of a request have the widths of their
bytes (R203), so only lists of bytes can be out of form. -/

namespace Sys2Proof

/-- The three checks: a POST_MESSAGE carries at most 59 text bytes (R203); the bytes of FRAME_DISCARDED are a partial
frame (R196); the bytes of FORMAT_REPLY are a frame answered FORMAT (R197). Every other command is well formed. -/
def Instr.wellFormed : Instr → Bool
  | .postMessage _ _ text => decide (text.length ≤ 59)
  | .frameDiscarded _ received => decide (judgeSelection received = .partialFrame)
  | .formatReply p received => answeredFormat p received
  | _ => true

end Sys2Proof
end

