-- ==== Sys2Proof/Certificates/Slice0/Obligations.lean ====
section
/-! DEFINITION. The statements for the provers. Requests are stated on a powered part at the port the role table names; a
reply is placed by `State.putReply`, which changes the port's buffers alone. -/

open Sys2Proof Sys2Proof.Machine

/-! ## The machine as a whole -/

/-- The step takes the command at the front of the queue, with the queue's rest (the model's queue, log 4). -/
def Obligations.StepTakesTheFrontCommand : Prop :=
  ∀ (c : Instr) (rest : List Instr) (s : State),
    step { s with pending := c :: rest } = exec c { s with pending := rest }

/-- The model's choice (log 3): an idle step of a powered part is one millisecond of the crystal. Every count and
timer moves by it (R148, R149); at the 100th millisecond the window closes (R2), at the 1,000th the clock second
passes (R29); a seal input that has been at another level for 50 ms without interruption (R9) and a talk-key input that
has been so for 30 ms (R169) are then taken, the inputs' levels being those given for the millisecond (log 24); and the
queue then holds the expiry of each timer that has run out (R36, R101, R94, R153, R165, R173), in the model's order (log
4). Without power it changes nothing. -/
def Obligations.IdleStepIsOneMillisecond : Prop :=
  ∀ s : State, s.pending = [] →
    (s.powered = false → step s = .next s) ∧
    (s.powered = true → ∃ a b c d e f,
      let less := fun x : Option Nat => x.map (· - 1)
      let gate := fun g : Gate => match g with
        | .releasing n => Gate.releasing (n - 1)
        | x => x
      let when := fun (due : Bool) (i : Instr) => if due then [i] else []
      let now := s.meas.sealPin.coming.headD s.meas.sealPin.level
      let key := fun (x : Pin Bool) (pressed : Bool) =>
        let level := x.coming.headD x.level
        ({ level := level, stable := if level = pressed then 0 else x.stable + 1, coming := x.coming.tail } : Pin Bool)
      let keyChange := fun (side : TalkSide) (x y : State) =>
        let pin := x.intercom.keyPins.get side
        if pin.stable < 30 then y = x
        else if pin.level then exec (.talkKeyPress side) x = .next y else exec (.talkKeyRelease side) x = .next y
      a = { s with
        meas := { s.meas with sealPin :=
          { level := now, stable := if now = s.meas.sealInput then 0 else s.meas.sealPin.stable + 1
            coming := s.meas.sealPin.coming.tail } }
        windowMs := (s.windowMs + 1) % 100, secondMs := (s.secondMs + 1) % 1000
        store := { s.store with zone := { s.store.zone with watch := less s.store.zone.watch } }
        pay := { s.pay with
          session := s.pay.session.map (fun x => { x with timeLeft := x.timeLeft - 1 })
          guardTimer := less s.pay.guardTimer }
        sign := { s.sign with phase := (s.sign.phase + 1) % 1000, test := less s.sign.test, lamps := a.sign.lamps }
        intercom := { s.intercom with
          floorTimer := less s.intercom.floorTimer
          keyPins := ⟨key s.intercom.keyPins.driver s.intercom.keys.driver, key s.intercom.keyPins.rear s.intercom.keys.rear⟩
          paths := ⟨{ s.intercom.paths.frontToRear with gate := gate s.intercom.paths.frontToRear.gate },
                    { s.intercom.paths.rearToFront with gate := gate s.intercom.paths.rearToFront.gate }⟩ } } ∧
      (∀ i : Fin 4, a.sign.lamps[i] = { s.sign.lamps[i] with period := (a.sign.lamps[i]).period } ∧
        (a.sign.channelLit i a.sign.lamps[i] = false → (a.sign.lamps[i]).period = none) ∧
        (a.sign.channelLit i a.sign.lamps[i] = true →
          ((s.sign.lamps[i]).period = none →
            (a.sign.lamps[i]).period = some { slot := 0, width := (s.sign.level * 256 + 50) / 100 }) ∧
          (∀ m, (s.sign.lamps[i]).period = some m → (a.sign.lamps[i]).period = some
            (if m.slot + 250 < 256 then { slot := m.slot + 250, width := m.width }
             else { slot := m.slot + 250 - 256, width := (s.sign.level * 256 + 50) / 100 })))) ∧
      (if a.windowMs = 0 then exec (.windowClose s.sign.sense) a = .next b else b = a) ∧
      (if a.secondMs = 0 then exec .clockSecond b = .next c else c = b) ∧
      (if c.meas.sealPin.stable < 50 then d = c
       else if c.meas.sealPin.level = .closed then exec .sealClose c = .next d else exec .sealOpen c = .next d) ∧
      keyChange .driver d e ∧ keyChange .rear e f ∧
      let expiries :=
        when (decide (f.store.zone.watch = some 0)) .zoneWatchExpiry ++
        when (decide (f.pay.session.map (·.timeLeft) = some 0)) .sessionExpiry ++
        when (decide (f.pay.guardTimer = some 0)) .pinGuardExpiry ++
        when (decide (f.sign.test = some 0)) .testTimerExpiry ++
        when (decide (f.intercom.paths.frontToRear.gate = .releasing 0)) (.releaseTimerExpiry .frontToRear) ++
        when (decide (f.intercom.paths.rearToFront.gate = .releasing 0)) (.releaseTimerExpiry .rearToFront) ++
        when (decide (f.intercom.floorTimer = some 0)) .floorTimerExpiry
      step s = .next { f with pending := expiries })

/-- Every command has a next state in every state of the part (00 "Events"). That no command touches the queue is said
of the model's own queue (log 4), and the states include those of a part without power, which the model leaves as it
is but for RESTART (log 10). -/
def Obligations.EveryCommandCompletes : Prop :=
  ∀ (c : Instr) (s : State), ∃ t, exec c s = .next t ∧ t.pending = s.pending

/-- The model's choice (log 10): a part without main power takes no command but RESTART. -/
def Obligations.UnpoweredPartTakesNothing : Prop :=
  ∀ (c : Instr) (s : State), s.powered = false → (∀ l b, c ≠ .restart l b) → exec c s = .next s

/-- The role check (R197, check 4): a request of a port that the role table does not give for its kind is answered ROLE,
and nothing changes but the port's own buffers. -/
def Obligations.RoleIsCheckedForEveryRequest : Prop :=
  ∀ (c : Instr) (p : Port) (k : Kind) (ps : List Byte) (s : State),
    c.request? = some (p, k, ps) → k.ports.has p = false → s.powered = true →
      exec c s = .next (s.putReply p k.code .role [])

/-- A request replaces its own port's reply by one whose read position is its first byte and whose kind echo is the
request's (R197), and leaves the buffers of the other ports as they are (R195). R201: the bytes of a reply frame, and
the status byte of each status. -/
def Obligations.EachRequestIsAnsweredAtItsPort : Prop :=
  (∀ (c : Instr) (p : Port) (k : Kind) (ps : List Byte) (s : State),
    c.request? = some (p, k, ps) → s.powered = true →
      ∃ t st res, exec c s = .next t ∧ (t.ports.get p).receive = [] ∧
        (t.ports.get p).reply = some { frame := replyFrame st k.code res, position := 0 } ∧
        ∀ q, q ≠ p → t.ports.get q = s.ports.get q) ∧
  (∀ (st : Status) (k : Nat) (res : List Byte), replyFrame st k res =
    [BitVec.ofNat 8 st.code, BitVec.ofNat 8 k, BitVec.ofNat 8 res.length, BitVec.ofNat 8 (res.length / 256)] ++ res) ∧
  [Status.ok, .clamped, .role, .state, .range, .full, .sealed, .busy, .moving, .locked, .conflict, .unknown,
    .format].map Status.code = List.range 13

/-- A request answered ROLE, STATE, SEAL, BUSY, MOVING or LOCKED changes no state but its port's buffers. -/
def Obligations.RefusedRequestsChangeNothing : Prop :=
  ∀ (c : Instr) (p : Port) (k : Kind) (ps : List Byte) (s t : State) (st : Status) (res : List Byte),
    c.request? = some (p, k, ps) → exec c s = .next t →
    (t.ports.get p).reply = some { frame := replyFrame st k.code res, position := 0 } →
    (st = .role ∨ st = .state ∨ st = .sealed ∨ st = .busy ∨ st = .moving ∨ st = .locked) →
      t = { s with ports := t.ports }

/-- The request frame of every well-formed request, with every operand at every value, decodes to that request at its
port (R196, R203). -/
def Obligations.RequestFramesDecode : Prop :=
  ∀ (c : Instr) (p : Port) (k : Kind) (ps f : List Byte),
    c.wellFormed = true → c.request? = some (p, k, ps) → requestFrame c = some f → decodeSelection p f = some c

/-- The reset state has these delivery values and restart values, which the chapters state for a new part (log 1 says that
the reset state is that part). -/
def Obligations.ResetIsADeliveredPart : Prop :=
  State.reset.meas.cal = { k := 6000, ceiling := 2000, count := 0, interlock := 100 } ∧
  State.reset.meas.run = .idle ∧ State.reset.meas.raw = 0 ∧ State.reset.meas.closure = 0 ∧
  State.reset.store.activeVersion = 0 ∧ State.reset.store.stage = .idle ∧ State.reset.store.clock = 0 ∧
  State.reset.store.clockInvalid = true ∧ State.reset.store.zone.known = false ∧
  State.reset.store.zone.threshold = 5 ∧ State.reset.store.zone.limit = 8 ∧
  State.reset.store.active.tariffs[(0 : Fin 8)] = some
    { flagFall := 0, prepaid := 0, stepAmount := 10, distanceStep := 100, timeStep := 30, mode := .single,
      f1 := 256, f2 := 256, f3 := 256, f4 := 256 } ∧
  (∀ i : Fin 4, State.reset.party i = none) ∧ State.reset.table.seatLimit = 4 ∧ State.reset.table.nextHire = some 1 ∧
  State.reset.table.offDuty = false ∧ State.reset.table.onCall = false ∧
  State.reset.pay.session = none ∧ State.reset.pay.counter = 1 ∧ State.reset.pay.guardTime = 10 ∧
  State.reset.journal.stored = [] ∧ State.reset.journal.nextSeq = 1 ∧ State.reset.journal.queued = 0 ∧
  State.reset.shift.state = .closed ∧ State.reset.shift.number = some 1 ∧ State.reset.shift.commission = 400 ∧
  State.reset.shift.offlineCap = 20000 ∧ State.reset.shift.tipCap = 300 ∧ State.reset.shift.holdLimit = 120 ∧
  State.reset.sign.state = .dark ∧ State.reset.sign.dayLevel = 100 ∧ State.reset.sign.nightLevel = 60 ∧
  State.reset.intercom.mode = .halfDuplex ∧ State.reset.intercom.floor = none ∧
  State.reset.intercom.codecs.front.fault = true ∧ State.reset.intercom.codecs.rear.fault = true ∧
  State.reset.intercom.paths.frontToRear.gate = .muted ∧ State.reset.intercom.paths.frontToRear.gain = 256 ∧
  (∀ p : Port, (State.reset.notices.ports.get p).pulses = NoticeSource.powerRecovered.bit ∧
    (State.reset.notices.ports.get p).enabled = BitVec.allOnes 21 ∧ (State.reset.ports.get p).reply = none) ∧
  State.reset.notices.routes = defaultRoutes

/-- The reset state meets every invariant of the part. -/
def Obligations.ResetStateIsSound : Prop :=
  State.reset.RoutesHoldMinimums ∧ State.reset.QueuesFit ∧ State.reset.GatesFollowFactors ∧ State.reset.SignIsDerived ∧ State.reset.LampsFollowPhases ∧
  State.reset.SessionLocksItsParty ∧ State.reset.ClosingSlotsAreQueued ∧ State.reset.ReserveFits ∧
  State.reset.SeatsFit ∧ State.reset.MoneyFits ∧ State.reset.SequenceIsGapless ∧ State.reset.ShiftCoversHires ∧
  State.reset.CommittedSetsAreComplete ∧ State.reset.SealStopsCalibration ∧ State.reset.InputsAreDebounced ∧
  State.reset.FloorIsConsistent ∧
  State.reset.LampsLatchAtThree ∧ State.reset.LevelsAreLegal

/-! ## Measurement and calibration (chapter 1) -/

/-- R1: a pulse adds 1 to the raw count and, while the run is COUNTING, to the course count; both saturate. -/
def Obligations.PulsesAreCounted : Prop :=
  ∀ s : State, s.powered = true →
    exec .distancePulse s = .next { s with meas := { s.meas with
      raw := min 65535 (s.meas.raw + 1)
      run := match s.meas.run with
        | .counting course n => .counting course (min 4294967295 (n + 1))
        | r => r } }

/-- The calibration run's requests: CAL_BEGIN accepted (R11), CAL_MARK at both marks (R12), CAL_ABORT (R13). That CAL_MARK's
reply has no presence field is the model's reading (log 35). -/
def Obligations.CalibrationRunIsMarked : Prop :=
  (∀ (s : State) (course : BitVec 16), s.powered = true →
    (s.meas.run = .idle ∨ ∃ c n k, s.meas.run = .failed c n k) → 100 ≤ course.toNat → course.toNat ≤ 5000 →
    s.meas.sealState = .opened → s.shift.state = .closed → s.nonVacant = 0 →
      exec (.calBegin .console course) s =
        .next (({ s with meas := { s.meas with run := .ready course.toNat } } : State).putReply .console 3 .ok [])) ∧
  (∀ (s : State) (course : Nat), s.powered = true → s.meas.run = .ready course →
    exec (.calMark .console) s =
      .next (({ s with meas := { s.meas with run := .counting course 0 } } : State).putReply .console 4 .ok [])) ∧
  (∀ (s : State) (course n : Nat), s.powered = true → s.meas.run = .counting course n →
    let k := (n * 1000 + course / 2) / course
    (500 ≤ k → k ≤ 50000 → exec (.calMark .console) s =
      .next ((({ s with meas := { s.meas with run := .done course n k } } : State).raise .calibrationPending).putReply
        .console 4 .ok (u32 n ++ u64 k))) ∧
    (k < 500 ∨ 50000 < k → exec (.calMark .console) s =
      .next (({ s with meas := { s.meas with run := .failed course n k } } : State).putReply
        .console 4 .range (u32 n ++ u64 k)))) ∧
  (∀ s : State, s.powered = true → s.meas.run.isAdopting = false →
    exec (.calAbort .console) s =
      .next (({ s with meas := { s.meas with run := .idle } } : State).putReply .console 5 .ok []))

/-- R14 and R9: an accepted CAL_ADOPT takes a place for its CALIBRATION entry and the run becomes ADOPTING (0 stands
for no ceiling); the seal input's opening opens the seal state, and its closing ends a run and closes the seal state,
but is held back while an adoption is queued. Each puts the input at its level (log 24). The presence byte of the
requested ceiling in the reply is the model's reading (log 14). -/
def Obligations.AdoptionIsQueuedAndTheSealMoves : Prop :=
  (∀ (s : State) (ceiling : BitVec 16) (c n k : Nat), s.powered = true → s.meas.run = .done c n k →
    ceiling.toNat ≤ 4095 → s.meas.sealState = .opened → s.shift.state = .closed → s.nonVacant = 0 →
    1 ≤ s.journal.free → s.journal.places.length < 4 →
      exec (.calAdopt .console ceiling) s = .next (({ s with
        meas := { s.meas with run := .adopting c n k (if ceiling = 0 then none else some ceiling.toNat) }
        journal := { s.journal with places := s.journal.places ++ [.calibration s.meas.cal.k k s.meas.cal.ceiling
          (if ceiling = 0 then s.meas.cal.ceiling else ceiling.toNat) (min max32 (s.meas.cal.count + 1))] } } :
          State).putReply .console 6 .ok
            (u8 (if ceiling = 0 then 0 else 1) ++ u16 s.meas.cal.k ++ u16 k ++ u16 s.meas.cal.ceiling ++ u16 ceiling.toNat))) ∧
  (∀ s : State, s.powered = true →
    exec .sealOpen s = .next { s with meas := { s.meas with
      sealInput := .opened, sealState := .opened, sealPin := { s.meas.sealPin with level := .opened, stable := 0 } } }) ∧
  (∀ s : State, s.powered = true → s.meas.run.isAdopting = false →
    exec .sealClose s =
      .next { s with meas := { s.meas with
        sealInput := .closed, sealState := .closed, run := .idle
        sealPin := { s.meas.sealPin with level := .closed, stable := 0 } } }) ∧
  (∀ s : State, s.powered = true → s.meas.run.isAdopting = true →
    exec .sealClose s = .next { s with meas := { s.meas with
      sealInput := .closed, sealPin := { s.meas.sealPin with level := .closed, stable := 0 } } })

/-- The settings of one value: within its range it replaces the setting, outside the request is refused with RANGE (R7,
R31, R37, R94, R140, R172). -/
def Obligations.SettingsAreReplacedInRange : Prop :=
  ∀ s : State, s.powered = true →
    (∀ v : BitVec 16, exec (.setStopInterlock .fleet v) s = .next (
      if v.toNat ≤ 300 then ({ s with meas := { s.meas with cal := { s.meas.cal with interlock := v.toNat } } } :
        State).putReply .fleet 2 .ok (u16 v.toNat)
      else s.putReply .fleet 2 .range [])) ∧
    (∀ v : Byte, exec (.setHoliday .fleet v) s = .next (
      if v.toNat ≤ 1 then ({ s with store := { s.store with holiday := decide (v.toNat = 1) } } :
        State).putReply .fleet 12 .ok []
      else s.putReply .fleet 12 .range [])) ∧
    (∀ a b : Byte, exec (.setZoneWatch .fleet a b) s = .next (
      if a.toNat ≤ 127 ∧ b.toNat ≤ 15 then ({ s with store := { s.store with zone := { s.store.zone with
          threshold := a.toNat, limit := b.toNat, watch := if b.toNat = 0 then none else s.store.zone.watch } } } :
        State).putReply .fleet 14 .ok []
      else s.putReply .fleet 14 .range [])) ∧
    (∀ v : Byte, exec (.setPinGuard .console v) s = .next (
      if 1 ≤ v.toNat then ({ s with pay := { s.pay with guardTime := v.toNat } } : State).putReply .console 29 .ok []
      else s.putReply .console 29 .range [])) ∧
    (∀ v : BitVec 16, exec (.setCommission .fleet v) s = .next (
      if v.toNat ≤ 1000 then ({ s with shift := { s.shift with commission := v.toNat } } :
        State).putReply .fleet 39 .ok (u16 s.shift.commission ++ u16 v.toNat)
      else s.putReply .fleet 39 .range [])) ∧
    (∀ v : BitVec 32, exec (.setOfflineCap .fleet v) s = .next (
      if v.toNat ≤ 999999 then ({ s with shift := { s.shift with offlineCap := v.toNat } } :
        State).putReply .fleet 40 .ok (u32 s.shift.offlineCap ++ u32 v.toNat)
      else s.putReply .fleet 40 .range [])) ∧
    (∀ v : BitVec 16, exec (.setTipCap .fleet v) s = .next (
      if v.toNat ≤ 1000 then ({ s with shift := { s.shift with tipCap := v.toNat } } :
        State).putReply .fleet 41 .ok (u16 s.shift.tipCap ++ u16 v.toNat)
      else s.putReply .fleet 41 .range [])) ∧
    (∀ v : BitVec 16, exec (.setHoldLimit .fleet v) s = .next (
      if 10 ≤ v.toNat ∧ v.toNat ≤ 600 then ({ s with shift := { s.shift with holdLimit := v.toNat } } :
        State).putReply .fleet 42 .ok (u16 s.shift.holdLimit ++ u16 v.toNat)
      else s.putReply .fleet 42 .range [])) ∧
    (∀ v : Byte, exec (.setTalkOverride .console v) s = .next (
      if v.toNat ≤ 1 then ({ s with intercom := { s.intercom with override := decide (v.toNat = 1) } } :
        State).putReply .console 51 .ok []
      else s.putReply .console 51 .range []))

/-! ## The window closure (chapters 1, 3, 7, 8, 9) -/

/-- R3, R4, R5 and the closure's part of R2: the window result, with the overrun window's notice and gains. The closure leaves
what no block of it owns. -/
def Obligations.WindowResultIsFormed : Prop :=
  ∀ (s : State) (sense : LampSense), s.powered = true →
    let p := min s.meas.raw s.meas.cal.ceiling
    let vw := min 9999 ((p * 360000 + s.meas.cal.k / 2) / s.meas.cal.k)
    ∃ t, exec (.windowClose sense) s = .next t ∧
      t.meas = { s.meas with
        raw := 0, closure := (s.meas.closure + 1) % 4294967296
        last := { charged := p, excess := s.meas.raw - s.meas.cal.ceiling, windowSpeed := vw
                  smoothed := (vw + s.meas.last.windowSpeed + 1) / 2 } } ∧
      t.pay = s.pay ∧ t.ports = s.ports ∧ t.store = { s.store with stage := t.store.stage } ∧
      t.table = { s.table with slots := t.table.slots } ∧ t.journal.stored = s.journal.stored ∧
      t.sign.state = s.sign.state ∧
      t.notices = (if s.meas.cal.ceiling < s.meas.raw then s.raise .sensorOverrun else s).notices ∧
      (s.shift.state = .opened → s.meas.cal.ceiling < s.meas.raw →
        t.shift.counters.excessPulses = min max32 (s.shift.counters.excessPulses + (s.meas.raw - s.meas.cal.ceiling)) ∧
        t.shift.counters.overruns = min max32 (s.shift.counters.overruns + 1)) ∧
      (s.shift.state ≠ .opened → t.shift.counters = s.shift.counters)

/-- R43 to R48: what a closure does to a charged party's progress, steps, fare and counts. R43: which parties are
charged, one for each slot. -/
def Obligations.ChargedPartyAdvances : Prop :=
  (∀ x : Party, isCharged none = false ∧ (isCharged (some x) = true ↔ x.state = .running ∧ x.joining = false)) ∧
  (∀ s : State, s.slotList = [s.party 0, s.party 1, s.party 2, s.party 3]) ∧
  ∀ (s : State) (sense : LampSense) (i : Fin 4) (x : Party) (r : Tariff), s.powered = true →
    s.party i = some x → x.state = .running → x.joining = false → s.store.active.tariffs[x.current] = some r →
    let n := s.slotList.countP isCharged
    let p := min s.meas.raw s.meas.cal.ceiling
    let f := if n = 1 then r.f1 else if n = 2 then r.f2 else if n = 3 then r.f3 else r.f4
    let td := r.distanceStep * s.meas.cal.k
    let tt := r.timeStep * 1000
    let dc := 1000 * p * tt * f
    let tc := 100 * td * f
    let c := if r.mode = .double then dc + tc else max dc tc
    let q := (x.progress + c) / (td * tt * 256)
    let u := min q x.prepaid
    ∃ t y, exec (.windowClose sense) s = .next t ∧ t.party i = some y ∧
      y.steps = min max32 (x.steps + q) ∧ y.prepaid = x.prepaid - u ∧
      (x.fare + (q - u) * r.stepAmount ≤ moneyMax →
        y.fare = x.fare + (q - u) * r.stepAmount ∧ y.saturated = x.saturated) ∧
      (moneyMax < x.fare + (q - u) * r.stepAmount → y.fare = moneyMax ∧ y.saturated = true) ∧
      y.pulses = min max32 (x.pulses + p) ∧ y.windows = min max32 (x.windows + 1) ∧
      y.mostConcurrent = max x.mostConcurrent n ∧
      (y.current = x.current → y.progress = x.progress + c - q * (td * tt * 256)) ∧
      (y.current ≠ x.current → y.progress = 0)

/-- R41, R42, R50 and R51 at a closure: a party that is not RUNNING, and a VACANT slot, are not worked on; a joining party is
not charged and its flag is cleared; every RUNNING party is on the selected tariff after it, and a switch loses its
progress and is counted. -/
def Obligations.PartiesJoinAndAreReselected : Prop :=
  (∀ (s : State) (sense : LampSense) (i : Fin 4), s.powered = true →
    ∃ t, exec (.windowClose sense) s = .next t ∧
      (s.party i = none → t.party i = none) ∧
      (∀ x, s.party i = some x → x.state ≠ .running → t.party i = some x) ∧
      (∀ x, s.party i = some x → x.state = .running → x.joining = true → ∃ y, t.party i = some y ∧
        y.state = .running ∧ y.joining = false ∧ y.prepaid = x.prepaid ∧ y.steps = x.steps ∧ y.fare = x.fare ∧
        y.pulses = x.pulses ∧ y.windows = x.windows ∧ y.mostConcurrent = x.mostConcurrent ∧
        (y.current = x.current → y.progress = x.progress))) ∧
  (∀ (s : State) (sense : LampSense) (i : Fin 4) (x : Party), s.powered = true →
    s.party i = some x → x.state = .running →
    ∃ t y, exec (.windowClose sense) s = .next t ∧ t.party i = some y ∧
      y.current = s.store.selectTariff x.pin ∧ y.first = x.first ∧ y.pin = x.pin ∧ y.hire = x.hire ∧ y.tip = x.tip ∧
      y.tenders = x.tenders ∧
      (y.current = x.current → y.switches = x.switches) ∧
      (y.current ≠ x.current → y.progress = 0 ∧ y.switches = min 65535 (x.switches + 1)))

/-- R52: the entry extra of the matching rule is charged to a RUNNING party once in its hire, or dropped for want of room;
without one the extras stay. -/
def Obligations.EntryExtraIsChargedOnce : Prop :=
  ∀ (s : State) (sense : LampSense) (i : Fin 4) (x : Party), s.powered = true →
    s.party i = some x → x.state = .running →
    ∃ t y, exec (.windowClose sense) s = .next t ∧ t.party i = some y ∧
      (∀ n rule kind k, s.store.matchingRule = some (n, rule) → rule.entryExtra = some kind →
        s.store.active.extraKinds[kind] = some k →
        let bit := 1#16 <<< (n - 1)
        (x.chargedRules &&& bit = 0 → x.extras.length < 8 →
          y.extras = x.extras ++ [{ kind := kind, cls := k.cls, amount := k.amount }] ∧
          y.chargedRules = x.chargedRules ||| bit ∧ y.extraDropped = x.extraDropped) ∧
        (x.chargedRules &&& bit = 0 → 8 ≤ x.extras.length →
          y.extras = x.extras ∧ y.chargedRules = x.chargedRules ||| bit ∧ y.extraDropped = true) ∧
        (x.chargedRules &&& bit ≠ 0 →
          y.extras = x.extras ∧ y.chargedRules = x.chargedRules ∧ y.extraDropped = x.extraDropped)) ∧
      ((s.store.matchingRule = none ∨ ∃ n rule, s.store.matchingRule = some (n, rule) ∧ rule.entryExtra = none) →
        y.extras = x.extras ∧ y.chargedRules = x.chargedRules ∧ y.extraDropped = x.extraDropped)

/-- R130 and R143: the charged pulses enter the counters of an OPEN shift and are carried into whole metres, the hired
ones at a closure that charges a party. Both remainders are below K after every closure; that the hired remainder is
carried with no pulses at a closure that charges no party is the model's reading of R143 (log 28). -/
def Obligations.PulsesBecomeMetres : Prop :=
  ∀ (s : State) (sense : LampSense), s.powered = true → 0 < s.meas.cal.k →
    let p := min s.meas.raw s.meas.cal.ceiling
    let k := s.meas.cal.k
    let n := s.slotList.countP isCharged
    let h := if 1 ≤ n then p else 0
    ∃ t, exec (.windowClose sense) s = .next t ∧
      t.shift.totals.totalRemainder < k ∧ t.shift.totals.hiredRemainder < k ∧
      t.shift.totals.totalRemainder = (s.shift.totals.totalRemainder + 1000 * p) % k ∧
      t.shift.totals.distance = min max32 (s.shift.totals.distance + (s.shift.totals.totalRemainder + 1000 * p) / k) ∧
      t.shift.totals.hiredRemainder = (s.shift.totals.hiredRemainder + 1000 * h) % k ∧
      t.shift.totals.hiredDistance =
        min max32 (s.shift.totals.hiredDistance + (s.shift.totals.hiredRemainder + 1000 * h) / k) ∧
      t.shift.totals.trips = s.shift.totals.trips ∧ t.shift.totals.fares = s.shift.totals.fares ∧
      (s.shift.state = .opened →
        t.shift.counters.totalPulses = min max32 (s.shift.counters.totalPulses + p) ∧
        t.shift.counters.hiredPulses = min max32 (s.shift.counters.hiredPulses + h) ∧
        t.shift.counters.fareTotal = s.shift.counters.fareTotal)

/-- R26: an armed set activates at a closure exactly when every slot is VACANT, the journal has the room and the queue a
place; the active set is not yet replaced. -/
def Obligations.ArmedSetActivates : Prop :=
  ∀ (s : State) (sense : LampSense) (v : BitVec 16), s.powered = true → s.store.stage = .armed v →
    ∃ t, exec (.windowClose sense) s = .next t ∧ t.store.active = s.store.active ∧ t.store.staged = s.store.staged ∧
      (s.nonVacant = 0 → (if s.shift.state = .opened then 2 else 1) ≤ s.journal.free → s.journal.places.length < 4 →
        t.store.stage = .activating v ∧
        t.journal = { s.journal with places := s.journal.places ++ [.tariff s.store.activeVersion v] }) ∧
      (s.nonVacant ≠ 0 ∨ s.journal.free < (if s.shift.state = .opened then 2 else 1) ∨ 4 ≤ s.journal.places.length →
        t.store.stage = .armed v ∧ t.journal = s.journal)

/-- R155, R156 and R160: a lit lamp is sampled and latches at its third dark sample, which an OPEN shift counts; a
codec's window is classified, and two bad or two good windows in a row set or clear its fault. R149: a closure takes the
period and the level of that period into use; that a modulation period which runs at the closure keeps the on-slot
count it began with, so that a lamp changes by its sample alone, is the model's reading (log 25). R148 and R152: when a
channel is in its on phase. -/
def Obligations.LampsAndCodecsAreJudged : Prop :=
  (∀ (s : State) (sense : LampSense), s.powered = true →
    ∃ t, exec (.windowClose sense) s = .next t ∧
      t.sign = { s.sign with
        period := s.store.period, level := if s.store.period = .night then s.sign.nightLevel else s.sign.dayLevel
        lamps := t.sign.lamps, sense := sense } ∧
      (∀ i : Fin 4,
        let l := s.sign.lamps[i]
        (s.sign.channelLit i l = false → t.sign.lamps[i] = l) ∧
        (s.sign.channelLit i l = true → senseAt sense i = true → t.sign.lamps[i] = { l with dark := 0 }) ∧
        (s.sign.channelLit i l = true → senseAt sense i = false →
          t.sign.lamps[i] = { l with dark := min 3 (l.dark + 1), latch := l.latch || decide (3 ≤ l.dark + 1) })) ∧
      (∀ side : CodecSide,
        let c := s.intercom.codecs.get side
        let d := t.intercom.codecs.get side
        d.lastFrames = c.frames ∧ d.frames = 0 ∧
        (c.fault = false → 1584 ≤ c.frames ∧ c.frames ≤ 1616 → d.fault = false ∧ d.badRun = 0) ∧
        (c.fault = false → ¬(1584 ≤ c.frames ∧ c.frames ≤ 1616) →
          d.fault = decide (1 ≤ c.badRun) ∧ d.badRun = (if 1 ≤ c.badRun then 0 else 1)) ∧
        (c.fault = true → 1584 ≤ c.frames ∧ c.frames ≤ 1616 →
          d.fault = decide (c.goodRun = 0) ∧ d.goodRun = (if c.goodRun = 0 then 1 else 0)) ∧
        (c.fault = true → ¬(1584 ≤ c.frames ∧ c.frames ≤ 1616) → d.fault = true ∧ d.goodRun = 0)) ∧
      (s.shift.state = .opened → t.shift.counters.lampFaults = min max32 (s.shift.counters.lampFaults +
        (List.finRange 4).countP (fun i : Fin 4 =>
          s.sign.channelLit i s.sign.lamps[i] && !senseAt sense i && !(s.sign.lamps[i]).latch &&
            decide (2 ≤ (s.sign.lamps[i]).dark)))) ∧
      (s.shift.state ≠ .opened → t.shift.counters = s.shift.counters)) ∧
  (∀ x : LampSense, senseAt x 0 = x.free ∧ senseAt x 1 = x.hired ∧ senseAt x 2 = x.share ∧ senseAt x 3 = x.off) ∧
  (∀ (g : Sign) (i : Fin 4) (l : Lamp),
    (l.override = .on → g.channelLit i l = true) ∧ (l.override = .off → g.channelLit i l = false) ∧
    (l.override = .normal → (g.channelLit i l = true ↔
      g.state = .offDuty ∧ i = 3 ∨ g.state = .free ∧ i = 0 ∨ g.state = .onCall ∧ i = 0 ∧ g.phase < 100 ∨
      g.state = .shareOpen ∧ (i = 1 ∨ i = 2) ∨ g.state = .hired ∧ i = 1 ∨ g.state = .arrived ∧ i = 1 ∧ g.phase < 500)))

/-! ## The tariff store (chapter 2) -/

/-- R23 to R25: the stage opened and emptied, items written and removed, the set armed, each with its refusals in their
order. R18 to R21 and R203: what an item's field bytes carry, number by number from its offset and least significant
byte first, and the range of each. That the reply naming a failed check has no presence field is the model's reading
(log 35). -/
def Obligations.StagedSetIsLoaded : Prop :=
  (∀ s : State, s.powered = true →
    (s.store.stage.isActivating = false → exec (.tariffBegin .fleet) s =
      .next (({ s with store := { s.store with staged := TariffSet.empty, stage := .loading } } : State).putReply
        .fleet 7 .ok [])) ∧
    (∀ v, s.store.stage = .activating v → exec (.tariffBegin .fleet) s = .next (s.putReply .fleet 7 .busy []))) ∧
  (∀ (s : State) (n : Byte) (fields : BitVec 176), s.powered = true → s.store.stage = .loading →
    let u := s.store.staged
    let c := fun (kind form : Byte) => exec (.tariffItem .fleet kind n form fields) s
    let written := fun t : TariffSet => Host.Outcome.next (
      ({ s with store := { s.store with staged := t } } : State).putReply .fleet 8 .ok [])
    (∀ i : Fin 8, n.toNat = i.val + 1 →
      c 0#8 0#8 = written { u with tariffs := u.tariffs.set i none } ∧
      (∀ r, tariffOf fields = some r → c 0#8 1#8 = written { u with tariffs := u.tariffs.set i (some r) }) ∧
      c 1#8 0#8 = written { u with extraKinds := u.extraKinds.set i none } ∧
      (∀ r, extraKindOf fields = some r → c 1#8 1#8 = written { u with extraKinds := u.extraKinds.set i (some r) })) ∧
    (∀ i : Fin 16, n.toNat = i.val + 1 →
      c 2#8 0#8 = written { u with zoneRules := u.zoneRules.set i none } ∧
      (∀ r, zoneRuleOf fields = some r → c 2#8 1#8 = written { u with zoneRules := u.zoneRules.set i (some r) })) ∧
    (∀ form d, defaultsOf fields u = some d → c 3#8 form = written d)) ∧
  (∀ (s : State) (kind n form : Byte) (fields : BitVec 176), s.powered = true →
    let refused := fun st : Status => exec (.tariffItem .fleet kind n form fields) s = .next (s.putReply .fleet 8 st [])
    (3 < kind.toNat → refused .range) ∧
    (kind.toNat < 3 → 1 < form.toNat → refused .range) ∧
    (kind.toNat ≤ 3 → (kind.toNat = 3 ∨ form.toNat ≤ 1) →
      (s.store.stage ≠ .loading → refused .state) ∧
      (s.store.stage = .loading →
        (kind.toNat < 2 → (n.toNat < 1 ∨ 8 < n.toNat) → refused .range) ∧
        (kind.toNat = 2 → (n.toNat < 1 ∨ 16 < n.toNat) → refused .range) ∧
        (kind.toNat = 0 → form.toNat = 1 → tariffOf fields = none → refused .range) ∧
        (kind.toNat = 1 → form.toNat = 1 → extraKindOf fields = none → refused .range) ∧
        (kind.toNat = 2 → form.toNat = 1 → zoneRuleOf fields = none → refused .range) ∧
        (kind.toNat = 3 → defaultsOf fields s.store.staged = none → refused .range)))) ∧
  (∀ (s : State) (v : BitVec 16), s.powered = true →
    (s.store.stage ≠ .loading → exec (.tariffCommit .fleet v) s = .next (s.putReply .fleet 9 .state [])) ∧
    (s.store.stage = .loading → s.store.staged.commitFailure = none → exec (.tariffCommit .fleet v) s =
      .next (({ s with store := { s.store with stage := .armed v } } : State).putReply .fleet 9 .ok [])) ∧
    (∀ check n, s.store.stage = .loading → s.store.staged.commitFailure = some (check, n) →
      exec (.tariffCommit .fleet v) s = .next (s.putReply .fleet 9 .range (u8 check ++ u8 n)))) ∧
  (∀ fields : BitVec 176,
    let num := fun offset n : Nat => fields.toNat / 256 ^ offset % 256 ^ n
    let number := fun x : Option (Fin 8) => (x.map (·.val + 1)).getD 0
    (∀ r, tariffOf fields = some r ↔
      r.flagFall = num 0 4 ∧ r.prepaid = num 4 1 ∧ r.stepAmount = num 5 4 ∧ r.distanceStep = num 9 2 ∧
      r.timeStep = num 11 2 ∧ (r.mode = .single ∧ num 13 1 = 0 ∨ r.mode = .double ∧ num 13 1 = 1) ∧ r.f1 = num 14 2 ∧
      r.f2 = num 16 2 ∧ r.f3 = num 18 2 ∧ r.f4 = num 20 2 ∧
      r.flagFall ≤ 99999 ∧ r.prepaid ≤ 255 ∧ 1 ≤ r.stepAmount ∧ r.stepAmount ≤ 100000 ∧ 1 ≤ r.distanceStep ∧
      r.distanceStep ≤ 2000 ∧ 1 ≤ r.timeStep ∧ r.timeStep ≤ 600 ∧ 1 ≤ r.f1 ∧ r.f1 ≤ 256 ∧ 1 ≤ r.f2 ∧ r.f2 ≤ 256 ∧
      1 ≤ r.f3 ∧ r.f3 ≤ 256 ∧ 1 ≤ r.f4 ∧ r.f4 ≤ 256) ∧
    (∀ r, extraKindOf fields = some r ↔
      (r.cls = .surcharge ∧ num 0 1 = 0 ∨ r.cls = .passThrough ∧ num 0 1 = 1) ∧ r.amount = num 1 4 ∧ r.amount ≤ 99999 ∧
      r.permitted.partition = false ∧
      num 5 1 = (if r.permitted.console then 1 else 0) + (if r.permitted.fleet then 4 else 0)) ∧
    (∀ r, zoneRuleOf fields = some r ↔ r.value.toNat = num 0 2 ∧ r.mask.toNat = num 2 2 ∧ number r.day = num 4 1 ∧
      number r.night = num 5 1 ∧ number r.holiday = num 6 1 ∧ number r.entryExtra = num 7 1) ∧
    (∀ t d, defaultsOf fields t = some d ↔
      d = { t with defaultDay := d.defaultDay, defaultNight := d.defaultNight, defaultHoliday := d.defaultHoliday
                   nightStart := d.nightStart, nightEnd := d.nightEnd } ∧
      d.defaultDay.val + 1 = num 0 1 ∧ d.defaultNight.val + 1 = num 1 1 ∧ d.defaultHoliday.val + 1 = num 2 1 ∧
      d.nightStart = num 3 2 ∧ d.nightEnd = num 5 2 ∧ d.nightStart ≤ 1439 ∧ d.nightEnd ≤ 1439))

/-- R25: the checks of TARIFF_COMMIT pass exactly when tariff 1 and the default tariffs are present, every rule's tariffs
are 0 or present, and every rule's entry extra names a present kind with a fixed amount; the check that a failure
names, and the tariff, default or rule number. The default's code is the model's reading, and of several that fail one
check the first default in the order DAY, NIGHT, HOLIDAY and the lowest rule number are its choice (log 15). -/
def Obligations.CommitChecksTheWholeSet : Prop :=
  ∀ t : TariffSet,
    let here := fun n : TariffNo => (t.tariffs[n]).isSome = true
    let tariffs := fun r : ZoneRule =>
      (∀ n, r.day = some n → here n) ∧ (∀ n, r.night = some n → here n) ∧ (∀ n, r.holiday = some n → here n)
    let entry := fun r : ZoneRule => ∀ n, r.entryExtra = some n → ∃ k, t.extraKinds[n] = some k ∧ 1 ≤ k.amount
    let first := fun (i : Fin 16) (ok : ZoneRule → Prop) => (∃ r, t.zoneRules[i] = some r ∧ ¬ok r) ∧
      ∀ (j : Fin 16) (r : ZoneRule), j < i → t.zoneRules[j] = some r → ok r
    let defaults := here 0 ∧ here t.defaultDay ∧ here t.defaultNight ∧ here t.defaultHoliday
    (t.commitFailure = none ↔
      defaults ∧ ∀ (i : Fin 16) (r : ZoneRule), t.zoneRules[i] = some r → tariffs r ∧ entry r) ∧
    (¬here 0 → t.commitFailure = some (1, 1)) ∧
    (here 0 → ¬here t.defaultDay → t.commitFailure = some (2, 0)) ∧
    (here 0 → here t.defaultDay → ¬here t.defaultNight → t.commitFailure = some (2, 1)) ∧
    (here 0 → here t.defaultDay → here t.defaultNight → ¬here t.defaultHoliday → t.commitFailure = some (2, 2)) ∧
    (defaults → ∀ i, first i tariffs → t.commitFailure = some (3, i.val + 1)) ∧
    (defaults → (∀ (i : Fin 16) (r : ZoneRule), t.zoneRules[i] = some r → tariffs r) → ∀ i, first i entry →
      t.commitFailure = some (4, i.val + 1))

/-- R38: the pin first, then the matching rule's tariff of the period, then the default of the period; a tariff that
the active set lacks gives tariff 1. R32 and R21: the period and the night band. R20: the matching rule is the first
that matches the last adopted code while the zone is KNOWN. -/
def Obligations.SelectionFollowsPinRulePeriod : Prop :=
  (∀ (t : TariffStore) (pin : Option TariffNo),
    let fallback := fun n : TariffNo => if (t.active.tariffs[n]).isSome then n else (0 : TariffNo)
    let standard := match t.period with
      | .day => t.active.defaultDay
      | .night => t.active.defaultNight
      | .holiday => t.active.defaultHoliday
    (∀ n, pin = some n → t.selectTariff pin = fallback n) ∧
    (∀ m r, pin = none → t.matchingRule = some (m, r) →
      t.selectTariff pin = fallback ((match t.period with
        | .day => r.day
        | .night => r.night
        | .holiday => r.holiday).getD standard)) ∧
    (pin = none → t.matchingRule = none → t.selectTariff pin = fallback standard)) ∧
  (∀ t : TariffStore,
    let m := t.clock / 60 % 1440
    let a := t.active.nightStart
    let b := t.active.nightEnd
    (t.clockInvalid = true → t.period = .day) ∧
    (t.clockInvalid = false → t.holiday = true → t.period = .holiday) ∧
    (t.clockInvalid = false → t.holiday = false →
      t.period = if a < b ∧ a ≤ m ∧ m < b ∨ b < a ∧ (a ≤ m ∨ m < b) then .night else .day)) ∧
  (∀ t : TariffStore,
    let matching := fun (r : ZoneRule) (code : BitVec 16) => code &&& r.mask = r.value &&& r.mask
    (t.zone.known = false ∨ t.zone.lastCode = none → t.matchingRule = none) ∧
    (∀ code, t.zone.known = true → t.zone.lastCode = some code →
      (∀ (i : Fin 16) (r : ZoneRule), t.active.zoneRules[i] = some r → matching r code →
        (∀ (j : Fin 16) (q : ZoneRule), j < i → t.active.zoneRules[j] = some q → ¬matching q code) →
        t.matchingRule = some (i.val + 1, r)) ∧
      ((∀ (i : Fin 16) (r : ZoneRule), t.active.zoneRules[i] = some r → ¬matching r code) → t.matchingRule = none)))

/-- R30, R29 and R31: SET_CLOCK, and the clock second with the clearing of the holiday flag at a new day of a VALID
clock and the overflow, which leaves the flag as it is by the model's reading (log 19). R34, R35 and R36: a GOOD
report is adopted, an UNCERTAIN one counted, any other quality refused, and the watch timer's expiry loses the zone once
the timer has run out (log 5). R33: the zone state in the reply, in the order of its table. In the replies the clock
item is log 13's, and the stopped timer and the presence byte are logs 12 and 14 (the model's readings). -/
def Obligations.ClockAndZoneAreFollowed : Prop :=
  (∀ (s : State) (v : BitVec 32), s.powered = true →
    exec (.setClock .fleet v) s =
      .next (({ s with store := { s.store with clock := v.toNat, clockInvalid := false } } : State).putReply .fleet 11 .ok
        (u32 s.store.clock ++ u8 (if s.store.clockInvalid then 1 else 0)))) ∧
  (∀ s : State, s.powered = true → s.store.clockInvalid = false → s.store.clock < max32 →
    exec .clockSecond s = .next { s with store := { s.store with
      clock := s.store.clock + 1
      holiday := s.store.holiday && !decide ((s.store.clock + 1) % 86400 = 0) } }) ∧
  (∀ s : State, s.powered = true → s.store.clockInvalid = false → s.store.clock = max32 →
    exec .clockSecond s = .next { s with store := { s.store with clock := 0, clockInvalid := true } }) ∧
  (∀ s : State, s.powered = true → s.store.clockInvalid = true →
    exec .clockSecond s = .next { s with store := { s.store with clock := (s.store.clock + 1) % 4294967296 } }) ∧
  (∀ (s : State) (code : BitVec 16), s.powered = true →
    let z : Zone := { s.store.zone with
      known := true, lastCode := some code, uncertain := 0
      watch := if s.store.zone.limit = 0 then none else some (s.store.zone.limit * 250) }
    let t : State := { s with store := { s.store with zone := z } }
    exec (.zoneReport .fleet code 0#8) s =
      .next ((if s.store.zone.lastCode = some code then t else t.raise .zoneChanged).putReply .fleet 13 .ok
        (zoneResults z))) ∧
  (∀ (s : State) (code : BitVec 16), s.powered = true →
    let n := min 127 (s.store.zone.uncertain + 1)
    let lost := s.store.zone.threshold ≠ 0 ∧ s.store.zone.known = true ∧ s.store.zone.threshold ≤ n
    let z : Zone := { s.store.zone with
      uncertain := n
      known := if lost then false else s.store.zone.known
      watch := if lost then none else s.store.zone.watch }
    let t : State := { s with store := { s.store with zone := z } }
    exec (.zoneReport .fleet code 1#8) s =
      .next ((if lost then t.raise .zoneLost else t).putReply .fleet 13 .ok (zoneResults z))) ∧
  (∀ s : State, s.powered = true → s.store.zone.watch ≠ some 0 → exec .zoneWatchExpiry s = .next s) ∧
  (∀ s : State, s.powered = true → s.store.zone.watch = some 0 →
    let t : State := { s with store := { s.store with zone := { s.store.zone with known := false, watch := none } } }
    exec .zoneWatchExpiry s = .next (if s.store.zone.known then t.raise .zoneLost else t)) ∧
  (∀ z : Zone, zoneResults z = u8 (if z.lastCode.isSome then 1 else 0) ++ u8 (if z.known then 1 else 0) ++
    u16 ((z.lastCode.map (·.toNat)).getD 0) ++ u8 z.uncertain ++ u16 (z.watch.getD 0) ++ u8 z.threshold ++ u8 z.limit) ∧
  (∀ (s : State) (code : BitVec 16) (quality : Byte), s.powered = true → 1 < quality.toNat →
    exec (.zoneReport .fleet code quality) s = .next (s.putReply .fleet 13 .range []))

/-! ## Hires (chapter 4) -/

/-- R56, R66 and R67: an accepted START_HIRE fills the lowest VACANT slot with a fresh record and acts on its neighbours.
R154: a lamp test is cancelled in the same update; that a channel which is in its on phase before and after goes on in
its modulation period is the model's reading (log 25). -/
def Obligations.HireStartsInTheLowestVacantSlot : Prop :=
  ∀ (s : State) (pin : Byte) (pinned : Option TariffNo) (i : Fin 4) (h : Nat) (r : Tariff), s.powered = true →
    (pin = 0 ∧ pinned = none ∨ ∃ n : Fin 8, pin.toNat = n.val + 1 ∧ pinned = some n) →
    s.shift.state = .opened → s.table.offDuty = false → s.store.stage.isActivating = false →
    s.nonVacant < s.table.seatLimit → s.nonVacant + 2 ≤ s.journal.free → s.table.nextHire = some h →
    s.party i = none → (∀ j : Fin 4, j < i → s.party j ≠ none) →
    s.store.active.tariffs[s.store.selectTariff pinned] = some r →
    let t := s.store.selectTariff pinned
    let x : Party :=
      { state := .running, hire := h, startTime := { clock := s.store.clock, invalid := s.store.clockInvalid }
        stopTime := none, zoneAtStart := if s.store.zone.known then s.store.zone.lastCode else none
        current := t, first := t, pin := pinned, joining := true, progress := 0, prepaid := r.prepaid, steps := 0
        fare := r.flagFall, pulses := 0, windows := 0, mostConcurrent := 1, switches := 0, extras := []
        chargedRules := 0, tip := 0, tenders := [], saturated := false, extraDropped := false
        powerInterrupted := false, lateApproval := false, excessCharged := false, counted := false, payment := none }
    let started : State := { s with
      table := { s.table with
        slots := s.table.slots.set i (some x), nextHire := if h < max32 then some (h + 1) else none, onCall := false } }
    ∃ u : State,
      exec (.startHire .console pin) s =
        .next ((((u.raise .hireStarted).requestTone .front .start).requestTone .rear .start).settleGates.putReply .console
          16 .ok (u8 i.val ++ u32 h ++ u8 (t.val + 1) ++ u32 r.flagFall ++ u32 (min moneyMax r.flagFall))) ∧
      (s.sign.test = none → u = started.updateSign) ∧
      (s.sign.test ≠ none → u = { started with sign := u.sign } ∧
        u.sign = { s.sign with state := started.deriveSign, phase := u.sign.phase, lamps := u.sign.lamps, test := none } ∧
        u.sign.phase = (if started.deriveSign = s.sign.state then s.sign.phase else 0) ∧
        ∀ j : Fin 4, u.sign.lamps[j] = { s.sign.lamps[j] with
          override := .normal
          period := if u.sign.channelLit j u.sign.lamps[j] then some ((s.sign.lamps[j]).period.getD
            { slot := 0, width := (s.sign.level * 256 + 50) / 100 }) else none })

/-- R65 and R62: the checks of START_HIRE in their order, the first that fails giving the reply; and the screening of the slot
that STOP_HIRE, RESUME_HIRE and PIN_TARIFF name. R68, R69 and R72: STOP_HIRE of a STOPPED party, RESUME_HIRE of a RUNNING
one and a pin that is no tariff. A request so refused changes no state. -/
def Obligations.HireRequestsAreCheckedInOrder : Prop :=
  (∀ (s : State) (pin : Byte) (st : Status), s.powered = true →
    (if 8 < pin.toNat then some Status.range
     else if s.shift.state = .closing then some .busy
     else if s.shift.state = .closed then some .state
     else if s.table.offDuty = true then some .state
     else if s.store.stage.isActivating = true then some .busy
     else if s.table.seatLimit ≤ s.nonVacant then some .full
     else if s.journal.free < s.nonVacant + 2 then some .full
     else if s.table.nextHire = none then some .full
     else none) = some st →
    exec (.startHire .console pin) s = .next (s.putReply .console 16 st [])) ∧
  (∀ (s : State) (slot tariff : Byte) (st : Status), s.powered = true → tariff.toNat ≤ 8 →
    (3 < slot.toNat ∧ st = .range ∨ ∃ i : Fin 4, slot.toNat = i.val ∧
      (s.party i = none ∧ st = .unknown ∨
       ∃ x, s.party i = some x ∧ (x.state = .closing ∧ st = .busy ∨ x.state = .paying ∧ st = .locked))) →
    exec (.stopHire .console slot) s = .next (s.putReply .console 17 st []) ∧
    exec (.resumeHire .console slot) s = .next (s.putReply .console 18 st []) ∧
    exec (.pinTariff .console slot tariff) s = .next (s.putReply .console 20 st [])) ∧
  (∀ (s : State) (slot tariff : Byte), s.powered = true → 8 < tariff.toNat →
    exec (.pinTariff .console slot tariff) s = .next (s.putReply .console 20 .range [])) ∧
  (∀ (s : State) (slot : Byte) (i : Fin 4) (x : Party), s.powered = true → slot.toNat = i.val → s.party i = some x →
    (x.state = .stopped → exec (.stopHire .console slot) s = .next (s.putReply .console 17 .state [])) ∧
    (x.state = .running → exec (.resumeHire .console slot) s = .next (s.putReply .console 18 .state [])))

/-- R68, R69, R71 and R72: STOP_HIRE refused while moving and accepted; RESUME_HIRE refused with tenders held and
accepted; ADD_EXTRA of a fixed and of a variable kind; PIN_TARIFF with the selection made at once. R70: the checks of
ADD_EXTRA in their order, the first that fails giving the reply, with no other change. That PIN_TARIFF's reply has no
presence field is the model's reading (log 35). -/
def Obligations.PartyRequestsAreTaken : Prop :=
  (∀ (s : State) (slot : Byte) (i : Fin 4) (x : Party), s.powered = true → slot.toNat = i.val → s.party i = some x →
    (x.state = .running →
      exec (.stopHire .console slot) s = .next (
        if s.meas.cal.interlock ≠ 0 ∧ s.meas.cal.interlock < s.meas.last.smoothed then s.putReply .console 17 .moving []
        else (((s.setParty i (some { x with
            state := .stopped, stopTime := some { clock := s.store.clock, invalid := s.store.clockInvalid } })).raise
          .partyStopped).updateSign).putReply .console 17 .ok
            (u32 x.fare ++ u32 (extrasTotal x.extras) ++ u32 x.tip ++ u32 x.due))) ∧
    (x.state = .stopped →
      exec (.resumeHire .console slot) s = .next (
        if x.tenders ≠ [] then s.putReply .console 18 .state []
        else (s.setParty i (some { x with state := .running, joining := true })).updateSign.putReply .console 18 .ok []))) ∧
  (∀ (s : State) (p : Port) (slot kind : Byte) (amount : BitVec 32) (i : Fin 4) (n : Fin 8) (x : Party) (k : ExtraKind),
    s.powered = true → p ≠ .partition → slot.toNat = i.val → kind.toNat = n.val + 1 →
    s.store.active.extraKinds[n] = some k → k.permitted.has p = true →
    (k.amount = 0 ∧ 1 ≤ amount.toNat ∧ amount.toNat ≤ 99999 ∨ k.amount ≠ 0 ∧ amount = 0) →
    s.party i = some x → (x.state = .running ∨ x.state = .stopped ∧ x.tenders = []) → x.extras.length < 8 →
    let y : Party := { x with
      extras := x.extras ++ [{ kind := n, cls := k.cls, amount := if k.amount = 0 then amount.toNat else k.amount }] }
    exec (.addExtra p slot kind amount) s = .next ((s.setParty i (some y)).putReply p 19 .ok
      (u8 (x.extras.length + 1) ++ u32 (extrasTotal y.extras) ++ u32 y.due))) ∧
  (∀ (s : State) (slot tariff : Byte) (pinned : Option TariffNo) (i : Fin 4) (x : Party), s.powered = true →
    (tariff = 0 ∧ pinned = none ∨ ∃ n : Fin 8, tariff.toNat = n.val + 1 ∧ pinned = some n) →
    slot.toNat = i.val → s.party i = some x → (x.state = .running ∨ x.state = .stopped) →
    let t := s.store.selectTariff pinned
    let y : Party := if t = x.current then { x with pin := pinned }
      else { x with pin := pinned, current := t, progress := 0, switches := min 65535 (x.switches + 1) }
    exec (.pinTariff .console slot tariff) s = .next ((s.setParty i (some y)).putReply .console 20 .ok
      (u8 (if pinned.isSome then 1 else 0) ++ u8 (numberCode pinned) ++ u8 (t.val + 1) ++
        u8 (if t = x.current then 0 else 1)))) ∧
  (∀ (s : State) (p : Port) (slot kind : Byte) (amount : BitVec 32), s.powered = true → p ≠ .partition →
    let refused := fun st : Status => exec (.addExtra p slot kind amount) s = .next (s.putReply p 19 st [])
    (3 < slot.toNat ∨ kind.toNat < 1 ∨ 8 < kind.toNat → refused .range) ∧
    (∀ (i : Fin 4) (n : Fin 8), slot.toNat = i.val → kind.toNat = n.val + 1 →
      (s.store.active.extraKinds[n] = none → refused .range) ∧
      (∀ k, s.store.active.extraKinds[n] = some k →
        let fits := k.amount = 0 ∧ 1 ≤ amount.toNat ∧ amount.toNat ≤ 99999 ∨ k.amount ≠ 0 ∧ amount = 0
        (k.permitted.has p = false → refused .role) ∧
        (k.permitted.has p = true → ¬fits → refused .range) ∧
        (k.permitted.has p = true → fits →
          (s.party i = none → refused .unknown) ∧
          (∀ x, s.party i = some x →
            (x.state = .closing → refused .busy) ∧ (x.state = .paying → refused .locked) ∧
            (x.state = .stopped → x.tenders ≠ [] → refused .state) ∧
            (x.state = .running ∨ x.state = .stopped ∧ x.tenders = [] → 8 ≤ x.extras.length → refused .full))))))

/-- R75 to R77: duty, on call and the seat limit, with their refusals. -/
def Obligations.DutyCallAndSeatsAreSet : Prop :=
  (∀ s : State, s.powered = true →
    exec (.setDuty .console 0#8) s = .next ((State.updateSign { s with
      table := { s.table with offDuty := true, onCall := false } }).putReply .console 23 .ok []) ∧
    exec (.setDuty .console 1#8) s = .next ((State.updateSign { s with
      table := { s.table with offDuty := false } }).putReply .console 23 .ok []) ∧
    exec (.setOnCall .fleet 0#8) s = .next ((State.updateSign { s with
      table := { s.table with onCall := false } }).putReply .fleet 24 .ok []) ∧
    exec (.setOnCall .fleet 1#8) s = .next (
      if s.shift.state = .opened ∧ s.table.offDuty = false then (State.updateSign { s with
        table := { s.table with onCall := true } }).putReply .fleet 24 .ok []
      else s.putReply .fleet 24 .state [])) ∧
  (∀ (s : State) (v : Byte), s.powered = true →
    exec (.setSeatLimit .console v) s = .next (
      if v.toNat < 1 ∨ 4 < v.toNat then s.putReply .console 25 .range []
      else if v.toNat < s.nonVacant then s.putReply .console 25 .state []
      else (State.updateSign { s with table := { s.table with seatLimit := v.toNat } }).putReply .console 25 .ok []))

/-! ## Payments (chapter 5) -/

/-- R89 and R91: an accepted PAY_OPEN locks the party under a new session; PAY_TIP sets the tip under its cap and
above its floor (the presence byte and the zero of 'tip set' in its reply are the model's reading, log 14). R90: the
offline allowance. R88: the checks of PAY_OPEN in their order, the first that fails giving the reply, with no other
change. -/
def Obligations.SessionOpensAndTakesTips : Prop :=
  (∀ (s : State) (slot : Byte) (i : Fin 4) (x : Party), s.powered = true → slot.toNat = i.val →
    s.pay.session = none → s.party i = some x → x.state = .stopped → 1 ≤ x.remaining →
    let paying : State := { s.setParty i (some { x with state := .paying, payment := some s.pay.counter }) with
      pay := { s.pay with
        session := some
          { slot := i, hire := x.hire, payment := s.pay.counter, requested := x.remaining, allowance := s.allowance
            timeLeft := s.shift.holdLimit * 1000, pinEntry := false }
        counter := if s.pay.counter < 65535 then s.pay.counter + 1 else 1 } }
    exec (.payOpen .partition slot) s = .next ((paying.raise .paymentOpened).updateSign.putReply .partition 26 .ok
      (u16 s.pay.counter ++ u8 i.val ++ u8 (if x.tenders.length = 3 then 1 else 0) ++ u32 x.hire ++ u32 x.fare ++
        u32 (extrasTotal x.extras) ++ u32 x.tip ++ u8 x.tenders.length ++ u32 x.remaining ++ u32 s.allowance))) ∧
  (∀ (s : State) (payment : BitVec 16) (hire tip : BitVec 32) (y : Session) (x : Party), s.powered = true →
    payment ≠ 0 → tip.toNat ≤ 999999 → s.pay.session = some y → y.payment = payment.toNat →
    (hire = 0 ∨ y.hire = hire.toNat) → s.party y.slot = some x →
    let capped := min tip.toNat (x.fare * s.shift.tipCap / 1000)
    let floor := tendersTotal x.tenders + 1 - x.fare - extrasTotal x.extras
    let set := if capped < floor then floor else capped
    let z : Party := { x with tip := set }
    let done : State := { s.setParty y.slot (some z) with
      pay := { s.pay with session := some { y with requested := z.remaining } } }
    (set = tip.toNat → exec (.payTip .partition payment hire tip) s =
      .next (done.putReply .partition 27 .ok (u8 0 ++ u32 0 ++ u32 z.due ++ u32 z.remaining))) ∧
    (set ≠ tip.toNat → exec (.payTip .partition payment hire tip) s =
      .next (done.putReply .partition 27 .clamped (u8 1 ++ u32 set ++ u32 z.due ++ u32 z.remaining)))) ∧
  (∀ (s : State) (slot : Byte), s.powered = true →
    let refused := fun st : Status => exec (.payOpen .partition slot) s = .next (s.putReply .partition 26 st [])
    (3 < slot.toNat → refused .range) ∧
    (∀ i : Fin 4, slot.toNat = i.val →
      (s.pay.session ≠ none → refused .busy) ∧
      (s.pay.session = none →
        (s.party i = none → refused .unknown) ∧
        (∀ x, s.party i = some x →
          (x.state = .closing → refused .busy) ∧ (x.state = .running → refused .state) ∧
          (x.state = .stopped → x.remaining = 0 → refused .state))))) ∧
  (∀ s : State,
    let held := fun i : Fin 4 => ((s.party i).map (fun x => (x.tenders.map (fun d => match d with
      | .cardOffline a _ _ _ _ => a
      | _ => 0)).sum)).getD 0
    s.allowance = s.shift.offlineCap - (s.shift.counters.cardOffline + (held 0 + held 1 + held 2 + held 3)))

/-- R92 to R94: PIN_STATE needs a session; ENTRY stops the guard timer and renews the deadline, IDLE from ENTRY starts
the guard timer, and its expiry stops it once it has run out and does nothing before (log 5). -/
def Obligations.PinEntryIsGuarded : Prop :=
  (∀ (s : State) (y : Session), s.powered = true → s.pay.session = some y →
    exec (.pinState .partition 1#8) s = .next ((State.settleGates { s with pay := { s.pay with
      session := some { y with pinEntry := true, timeLeft := s.shift.holdLimit * 1000 }, guardTimer := none } }).putReply
        .partition 28 .ok []) ∧
    exec (.pinState .partition 0#8) s = .next (
      (if y.pinEntry then State.settleGates { s with pay := { s.pay with
          session := some { y with pinEntry := false }, guardTimer := some (s.pay.guardTime * 100) } }
       else s).putReply .partition 28 .ok [])) ∧
  (∀ (s : State) (v : Byte), s.powered = true → s.pay.session = none → v.toNat ≤ 1 →
    exec (.pinState .partition v) s = .next (s.putReply .partition 28 .state [])) ∧
  (∀ s : State, s.powered = true → s.pay.guardTimer ≠ some 0 → exec .pinGuardExpiry s = .next s) ∧
  (∀ s : State, s.powered = true → s.pay.guardTimer = some 0 →
    exec .pinGuardExpiry s = .next (State.settleGates { s with pay := { s.pay with guardTimer := none } }))

/-- R98 and R99: an approval for the open session that can take a place is applied; one that cannot closes the session as
an orphan approval where the journal has room, and is refused FULL otherwise. R87: the recent-session list holds the
last four. That the reply has no presence field is the model's reading (log 35). -/
def Obligations.ApprovalIsApplied : Prop :=
  (∀ (l : List RecentSession) (x : RecentSession), l.length ≤ 4 →
    pushRecent l x = l.drop (l.length + 1 - 4) ++ [x]) ∧
  (∀ (s : State) (payment : BitVec 16) (hire amount reference : BitVec 32) (offline : Bool) (y : Session) (x : Party),
    s.powered = true → payment ≠ 0 → 1 ≤ amount.toNat → amount.toNat ≤ moneyMax → reference.toNat ≤ 99999999 →
    s.pay.session = some y → y.payment = payment.toNat → (hire = 0 ∨ y.hire = hire.toNat) → s.party y.slot = some x →
    (x.tenders.length < 3 ∨ x.tenders.length = 3 ∧ x.remaining ≤ amount.toNat) →
    let a := min amount.toNat x.remaining
    let excess := amount.toNat - a
    let beyond := offline && decide (s.allowance < a)
    let tender : Tender := if offline then .cardOffline a payment.toNat reference.toNat excess beyond
      else .cardOnline a payment.toNat reference.toNat excess
    let settled := decide (x.remaining ≤ amount.toNat)
    let z : Party := { x with
      state := if settled then .closing else .stopped, payment := none, tenders := x.tenders ++ [tender]
      excessCharged := x.excessCharged || decide (0 < excess) }
    ∃ t : State,
      exec (.payResult .partition payment hire (if offline then 1#8 else 0#8) amount reference) s =
        .next (t.putReply .partition 30 (if 0 < excess then .clamped else .ok)
          (u32 a ++ u32 excess ++ u8 (if beyond then 1 else 0) ++ u32 (x.remaining - a) ++ u8 (if settled then 4 else 2))) ∧
      t.table = { s.table with slots := s.table.slots.set y.slot (some z) } ∧
      t.journal = (if settled then s.journal.append (.trip (tripEntry s.meas.cal.k y.slot z)) else s.journal) ∧
      t.pay = { s.pay with
        session := none
        recent := pushRecent s.pay.recent { payment := y.payment, slot := y.slot, hire := y.hire, cause := .result }
        guardTimer := if y.pinEntry then some (s.pay.guardTime * 100) else s.pay.guardTimer } ∧
      t.notices = (s.raise .paymentResult).notices ∧
      t.intercom.speakers.rear = s.intercom.speakers.rear.take .approved ∧
      t.intercom.speakers.front = s.intercom.speakers.front ∧
      t.sign.state = t.deriveSign ∧ t.meas = s.meas ∧ t.store = s.store ∧ t.shift = s.shift) ∧
  (∀ (s : State) (payment : BitVec 16) (hire amount reference : BitVec 32) (offline : Bool) (y : Session) (x : Party),
    s.powered = true → payment ≠ 0 → 1 ≤ amount.toNat → amount.toNat ≤ moneyMax → reference.toNat ≤ 99999999 →
    s.pay.session = some y → y.payment = payment.toNat → (hire = 0 ∨ y.hire = hire.toNat) → s.party y.slot = some x →
    (4 ≤ x.tenders.length ∨ x.tenders.length = 3 ∧ amount.toNat < x.remaining) →
    let c := Instr.payResult .partition payment hire (if offline then 1#8 else 0#8) amount reference
    let room := s.nonVacant + (if s.shift.state = .opened then 1 else 0) < s.journal.free ∧ s.journal.places.length < 4
    (room → ∃ t : State, exec c s = .next (t.putReply .partition 30 .conflict []) ∧
      t.journal = { s.journal with places := s.journal.places ++ [.orphan
        { payment := y.payment, hire := some y.hire, offline := offline, amount := amount.toNat
          reference := reference.toNat, time := { clock := s.store.clock, invalid := s.store.clockInvalid } }] } ∧
      t.table = { s.table with slots := s.table.slots.set y.slot (some { x with state := .stopped, payment := none }) } ∧
      t.pay = { s.pay with
        session := none
        recent := pushRecent s.pay.recent { payment := y.payment, slot := y.slot, hire := y.hire, cause := .result }
        guardTimer := if y.pinEntry then some (s.pay.guardTime * 100) else s.pay.guardTimer } ∧
      t.notices = ((s.raise .orphanApproval).raise .paymentResult).notices ∧
      t.shift = (if s.shift.state = .opened then { s.shift with
        counters := { s.shift.counters with orphans := min max32 (s.shift.counters.orphans + 1) } } else s.shift) ∧
      t.intercom.speakers.rear = s.intercom.speakers.rear.take .declined ∧
      t.intercom.speakers.front = s.intercom.speakers.front ∧ t.sign.state = t.deriveSign ∧ t.meas = s.meas ∧
      t.store = s.store) ∧
    (¬room → exec c s = .next (s.putReply .partition 30 .full [])))

/-- R100, R101 and R104: a DECLINED or ABORTED result and the deadline close the session, return its party to STOPPED
with its tenders, and are counted; an expiry taken before the time to the deadline has run out does nothing (R92, log
5); a late DECLINED or ABORTED result changes nothing. That the reply has no presence field is the model's reading (log
35). -/
def Obligations.SessionsEndUnpaid : Prop :=
  (∀ (s : State) (payment : BitVec 16) (hire amount reference : BitVec 32) (declined : Bool) (y : Session) (x : Party),
    s.powered = true → payment ≠ 0 → s.pay.session = some y → y.payment = payment.toNat →
    (hire = 0 ∨ y.hire = hire.toNat) → s.party y.slot = some x → s.shift.state = .opened →
    ∃ t : State,
      exec (.payResult .partition payment hire (if declined then 2#8 else 3#8) amount reference) s =
        .next (t.putReply .partition 30 .ok (u8 2 ++ u32 x.remaining)) ∧
      t.table = { s.table with slots := s.table.slots.set y.slot (some { x with state := .stopped, payment := none }) } ∧
      t.pay.session = none ∧
      t.pay.recent =
        pushRecent s.pay.recent { payment := y.payment, slot := y.slot, hire := y.hire, cause := .result } ∧
      t.pay.guardTimer = (if y.pinEntry then some (s.pay.guardTime * 100) else s.pay.guardTimer) ∧
      (declined = true → t.shift.counters =
        { s.shift.counters with declines := min max32 (s.shift.counters.declines + 1) }) ∧
      (declined = false → t.shift.counters =
        { s.shift.counters with aborts := min max32 (s.shift.counters.aborts + 1) }) ∧
      t.notices = (s.raise .paymentResult).notices ∧
      t.intercom.speakers.rear = s.intercom.speakers.rear.take .declined ∧ t.journal = s.journal) ∧
  (∀ (s : State) (y : Session) (x : Party), s.powered = true → s.pay.session = some y → y.timeLeft = 0 →
    s.party y.slot = some x →
    ∃ t : State, exec .sessionExpiry s = .next t ∧
      t.table = { s.table with slots := s.table.slots.set y.slot (some { x with state := .stopped, payment := none }) } ∧
      t.pay.session = none ∧
      t.pay.recent =
        pushRecent s.pay.recent { payment := y.payment, slot := y.slot, hire := y.hire, cause := .expired } ∧
      t.pay.guardTimer = (if y.pinEntry then some (s.pay.guardTime * 100) else s.pay.guardTimer) ∧
      (s.shift.state = .opened → t.shift.counters.expiries = min max32 (s.shift.counters.expiries + 1)) ∧
      t.notices = (s.raise .paymentExpired).notices ∧
      t.intercom.speakers.front = s.intercom.speakers.front.take .expired ∧
      t.intercom.speakers.rear = s.intercom.speakers.rear.take .expired ∧ t.journal = s.journal) ∧
  (∀ (s : State) (y : Session), s.powered = true → s.pay.session = some y → y.timeLeft ≠ 0 →
    exec .sessionExpiry s = .next s) ∧
  (∀ (s : State) (payment : BitVec 16) (hire amount reference : BitVec 32) (outcome : Byte), s.powered = true →
    payment ≠ 0 → outcome = 2#8 ∨ outcome = 3#8 → s.openFor payment.toNat hire.toNat = none →
    exec (.payResult .partition payment hire outcome amount reference) s = .next (s.putReply .partition 30 .ok []))

/-- R102, R103 and R97: a late approval is applied to the party of its expired session where it still fits, and is otherwise
recorded as an orphan approval where the journal has room, or answered FULL. R95 and R98: which session a result is for;
R102: the item's cause becomes RESULT. That the reply has no presence field is the model's reading (log 35). -/
def Obligations.LateApprovalIsKept : Prop :=
  (∀ (s : State) (payment hire : Nat) (y : Session), s.openFor payment hire = some y ↔
    s.pay.session = some y ∧ y.payment = payment ∧ (hire = 0 ∨ y.hire = hire)) ∧
  (∀ (l : List RecentSession) (it : RecentSession),
    markResult l it = l.map (fun y => if y = it then { y with cause := .result } else y)) ∧
  ∀ (s : State) (payment : BitVec 16) (hire amount reference : BitVec 32) (offline : Bool), s.powered = true →
    payment ≠ 0 → 1 ≤ amount.toNat → amount.toNat ≤ moneyMax → reference.toNat ≤ 99999999 →
    s.openFor payment.toNat hire.toNat = none →
    let c := Instr.payResult .partition payment hire (if offline then 1#8 else 0#8) amount reference
    let found := s.pay.recent.find? (fun it => decide (it.payment = payment.toNat) &&
      (decide (hire.toNat = 0) || decide (it.hire = hire.toNat)))
    let room := s.nonVacant + (if s.shift.state = .opened then 1 else 0) < s.journal.free ∧ s.journal.places.length < 4
    let entry := fun h : Option Nat => EntryBody.orphan
      { payment := payment.toNat, hire := h, offline := offline, amount := amount.toNat, reference := reference.toNat
        time := { clock := s.store.clock, invalid := s.store.clockInvalid } }
    (found = none → room → ∃ t : State, exec c s = .next (t.putReply .partition 30 .unknown []) ∧
      t.journal = { s.journal with places := s.journal.places ++ [entry none] } ∧ t.table = s.table ∧ t.pay = s.pay ∧
      t.notices = (s.raise .orphanApproval).notices ∧
      (s.shift.state = .opened →
        t.shift.counters = { s.shift.counters with orphans := min max32 (s.shift.counters.orphans + 1) }) ∧
      (s.shift.state ≠ .opened → t.shift = s.shift)) ∧
    (found = none → ¬room → exec c s = .next (s.putReply .partition 30 .full [])) ∧
    (∀ it, found = some it → (it.cause = .result ∨ s.party it.slot = none ∨
        ∃ x, s.party it.slot = some x ∧ (x.hire ≠ it.hire ∨ x.state ≠ .stopped ∨ x.remaining = 0 ∨
          4 ≤ x.tenders.length ∨ x.tenders.length = 3 ∧ amount.toNat < x.remaining)) →
      (room → ∃ t : State, exec c s = .next (t.putReply .partition 30 .conflict []) ∧
        t.journal = { s.journal with places := s.journal.places ++ [entry (some it.hire)] } ∧ t.table = s.table ∧
        t.pay = { s.pay with recent := markResult s.pay.recent it } ∧
        t.notices = (s.raise .orphanApproval).notices ∧
        (s.shift.state = .opened →
          t.shift.counters = { s.shift.counters with orphans := min max32 (s.shift.counters.orphans + 1) }) ∧
        (s.shift.state ≠ .opened → t.shift = s.shift)) ∧
      (¬room → exec c s = .next (s.putReply .partition 30 .full []))) ∧
    (∀ it x, found = some it → it.cause = .expired → s.party it.slot = some x → x.hire = it.hire → x.state = .stopped →
      1 ≤ x.remaining → (x.tenders.length < 3 ∨ x.tenders.length = 3 ∧ x.remaining ≤ amount.toNat) →
      let a := min amount.toNat x.remaining
      let beyond := offline && decide (s.allowance < a)
      let tender : Tender := if offline then .cardOffline a it.payment reference.toNat (amount.toNat - a) beyond
        else .cardOnline a it.payment reference.toNat (amount.toNat - a)
      let settled := decide (x.remaining ≤ amount.toNat)
      let z : Party := { x with
        state := if settled then .closing else .stopped, payment := none, tenders := x.tenders ++ [tender]
        excessCharged := x.excessCharged || decide (a < amount.toNat), lateApproval := true }
      ∃ t : State, exec c s = .next (t.putReply .partition 30 (if a < amount.toNat then .clamped else .ok)
          (u32 a ++ u32 (amount.toNat - a) ++ u8 (if beyond then 1 else 0) ++ u32 (x.remaining - a) ++
            u8 (if settled then 4 else 2))) ∧
        t.table = { s.table with slots := s.table.slots.set it.slot (some z) } ∧
        t.journal = (if settled then s.journal.append (.trip (tripEntry s.meas.cal.k it.slot z)) else s.journal) ∧
        t.pay = { s.pay with recent := markResult s.pay.recent it } ∧
        t.notices = (s.raise .paymentResult).notices ∧ t.intercom = s.intercom ∧ t.shift = s.shift)

/-- R106: an accepted CASH_SETTLE applies the cash up to the amount remaining, returns the rest as change, and closes
the party where nothing remains; for nothing remaining it closes without a tender. R105: its checks in their order,
the first that fails giving the reply, with no other change. R111: the TRIP entry that the closing queues. -/
def Obligations.CashSettlesTheParty : Prop :=
  (∀ (s : State) (slot : Byte) (amount : BitVec 32) (i : Fin 4) (x : Party), s.powered = true → slot.toNat = i.val →
    1 ≤ amount.toNat → amount.toNat ≤ moneyMax → s.party i = some x → x.state = .stopped →
    (x.tenders.length < 3 ∨ x.tenders.length = 3 ∧ x.remaining ≤ amount.toNat) →
    let a := min amount.toNat x.remaining
    let settled := decide (x.remaining ≤ amount.toNat)
    let z : Party := { x with
      state := if settled then .closing else .stopped, payment := none
      tenders := if x.remaining = 0 then x.tenders else x.tenders ++ [.cash a] }
    exec (.cashSettle .console slot amount) s =
      .next ((State.updateSign { s.setParty i (some z) with
        journal := if settled then s.journal.append (.trip (tripEntry s.meas.cal.k i z)) else s.journal }).putReply
          .console 31 .ok
            (u32 a ++ u32 (amount.toNat - a) ++ u32 (x.remaining - a) ++ u8 (if settled then 4 else 2)))) ∧
  (∀ (s : State) (slot : Byte) (amount : BitVec 32), s.powered = true →
    let refused := fun st : Status => exec (.cashSettle .console slot amount) s = .next (s.putReply .console 31 st [])
    (3 < slot.toNat ∨ amount.toNat < 1 ∨ moneyMax < amount.toNat → refused .range) ∧
    (∀ i : Fin 4, slot.toNat = i.val → 1 ≤ amount.toNat → amount.toNat ≤ moneyMax →
      (s.party i = none → refused .unknown) ∧
      (∀ x, s.party i = some x →
        (x.state = .closing → refused .busy) ∧ (x.state = .paying → refused .locked) ∧
        (x.state = .running → refused .state) ∧
        (x.state = .stopped → 4 ≤ x.tenders.length → refused .full) ∧
        (x.state = .stopped → x.tenders.length = 3 → amount.toNat < x.remaining → refused .range)))) ∧
  (∀ (k : Nat) (i : Fin 4) (x : Party), tripEntry k i x =
    { hire := x.hire, slot := i, startTime := x.startTime.clock, stopTime := (x.stopTime.map (·.clock)).getD 0
      clockInvalid := x.startTime.invalid || (x.stopTime.map (·.invalid)).getD false, zoneAtStart := x.zoneAtStart
      first := x.first, last := x.current, switches := x.switches, distance := x.pulses * 1000 / k
      chargedTime := x.windows / 10, steps := x.steps, fare := x.fare, extras := x.extras, tip := x.tip
      tenders := x.tenders, mostConcurrent := x.mostConcurrent, saturated := x.saturated, extraDropped := x.extraDropped
      powerInterrupted := x.powerInterrupted, lateApproval := x.lateApproval, excessCharged := x.excessCharged })

/-! ## The journal (chapter 6) -/

/-- R116: JOURNAL_READ gives the named entry and the number after it. R117: JOURNAL_ACK removes every entry up to a
number given, and is refused above the last; the bytes of its reply are the model's reading (logs 14 and 15). R201,
R204, R110 and R112: the bytes of an entry of each kind, least significant byte first; a TRIP entry is spelled out for
a distance that its four bytes hold (log 16), a SHIFT entry by the report of ShiftsOpenAndClose. -/
def Obligations.JournalIsReadAndAcknowledged : Prop :=
  (∀ (s : State) (p : Port) (seq : BitVec 32) (older newer : List Entry) (e : Entry), s.powered = true →
    s.journal.stored = older ++ e :: newer →
    (seq = 0 ∧ older = [] ∨ seq ≠ 0 ∧ e.seq = seq.toNat ∧ ∀ d ∈ older, d.seq ≠ seq.toNat) →
      exec (.journalRead p seq) s = .next (s.putReply p 33 .ok
        (u32 (match newer with | [] => 0 | d :: _ => d.seq) ++ entryBytes e))) ∧
  (∀ (s : State) (p : Port) (seq : BitVec 32), s.powered = true →
    (seq = 0 ∧ s.journal.stored = [] ∨ seq ≠ 0 ∧ ∀ d ∈ s.journal.stored, d.seq ≠ seq.toNat) →
      exec (.journalRead p seq) s = .next (s.putReply p 33 .unknown [])) ∧
  (∀ (s : State) (seq : BitVec 32), s.powered = true → seq.toNat ≤ s.journal.nextSeq - 1 →
    let left := s.journal.stored.filter (fun e => seq.toNat < e.seq)
    ∃ t res, exec (.journalAck .fleet seq) s = .next (t.putReply .fleet 34 .ok res) ∧
      t = { s with journal := { s.journal with stored := left } } ∧
      res = u8 (if left.isEmpty then 0 else 1) ++ u16 (s.journal.stored.length - left.length) ++
        u32 ((left.head?.map (·.seq)).getD 0) ++ u16 t.journal.free) ∧
  (∀ (s : State) (seq : BitVec 32), s.powered = true → s.journal.nextSeq - 1 < seq.toNat →
    exec (.journalAck .fleet seq) s = .next (s.putReply .fleet 34 .range [])) ∧
  (∀ n, u8 n = [BitVec.ofNat 8 n] ∧ u16 n = u8 n ++ u8 (n / 256) ∧ u32 n = u16 n ++ u16 (n / 65536) ∧
    u64 n = u32 n ++ u32 (n / 4294967296)) ∧
  (let bit := fun (b : Bool) (w : Nat) => if b then w else 0
   let code := fun x : Option (BitVec 16) => (x.map (·.toNat)).getD 0
   let extra := fun x : Extra => u8 (x.kind.val + 1) ++ u8 (match x.cls with | .surcharge => 0 | .passThrough => 1) ++
     u32 x.amount
   let tender := fun x : Tender => match x with
     | .cash a => u8 0 ++ u8 0 ++ u16 0 ++ u32 a ++ u32 0 ++ u32 0
     | .cardOnline a pay ref excess => u8 1 ++ u8 0 ++ u16 pay ++ u32 a ++ u32 ref ++ u32 excess
     | .cardOffline a pay ref excess above => u8 2 ++ u8 (bit above 1) ++ u16 pay ++ u32 a ++ u32 ref ++ u32 excess
   let head := fun (kind : Nat) (e : Entry) =>
     u8 kind ++ u32 e.seq ++ u32 e.time.clock ++ u8 (bit e.time.invalid 1)
   (∀ (e : Entry) (x : TripEntry), e.body = .trip x → x.distance ≤ max32 → entryBytes e = head 1 e ++ u32 x.hire ++
      u8 x.slot.val ++ u8 (bit x.zoneAtStart.isSome 1 + bit x.clockInvalid 2) ++
      u8 (bit x.saturated 1 + bit x.extraDropped 2 + bit x.powerInterrupted 4 + bit x.lateApproval 8 +
        bit x.excessCharged 16) ++
      u32 x.startTime ++ u32 x.stopTime ++ u16 (code x.zoneAtStart) ++ u8 (x.first.val + 1) ++ u8 (x.last.val + 1) ++
      u16 x.switches ++ u8 x.mostConcurrent ++ u32 x.distance ++ u32 x.chargedTime ++ u32 x.steps ++ u32 x.fare ++
      u32 x.tip ++ u8 x.extras.length ++ u8 x.tenders.length ++ x.extras.flatMap extra ++ x.tenders.flatMap tender) ∧
   (∀ (e : Entry) (r : ShiftReport), e.body = .shift r → entryBytes e = head 2 e ++ reportBytes r) ∧
   (∀ (e : Entry) (o : OrphanEntry), e.body = .orphan o → entryBytes e = head 3 e ++ u8 (bit o.hire.isSome 1) ++
      u16 o.payment ++ u32 (o.hire.getD 0) ++ u8 (bit o.offline 1) ++ u32 o.amount ++ u32 o.reference) ∧
   (∀ (e : Entry) (oldK k oldC c count : Nat), e.body = .calibration oldK k oldC c count →
      entryBytes e = head 4 e ++ u16 oldK ++ u16 k ++ u16 oldC ++ u16 c ++ u32 count) ∧
   (∀ (e : Entry) (old new : BitVec 16), e.body = .tariff old new →
      entryBytes e = head 5 e ++ u16 old.toNat ++ u16 new.toNat))

/-- R113: an entry takes the first free of four places, or waits behind them. R114, R15 and R27: the write of the first
entry begins; its completion stores it with the next number and moves the queue, and a CALIBRATION or TARIFF completion
makes its replacement in the same event. That no write is in flight after a completion until the next APPEND_WRITE_START
is the model's choice (log 11): R114 says that the next write then begins. -/
def Obligations.AppendsAreStored : Prop :=
  (∀ (j : RecordStore) (b : EntryBody),
    (j.places.length < 4 → j.append b = { j with places := j.places ++ [b] }) ∧
    (4 ≤ j.places.length → j.append b = { j with waiting := j.waiting ++ [b] })) ∧
  (∀ s : State, s.powered = true → s.journal.places ≠ [] →
    exec .appendWriteStart s = .next { s with journal := { s.journal with inFlight := true } }) ∧
  (∀ (s : State) (b : EntryBody) (rest : List EntryBody), s.powered = true → s.journal.inFlight = true →
    s.journal.places = b :: rest →
    let now : Stamp := { clock := s.store.clock, invalid := s.store.clockInvalid }
    let after := fun e : Entry => { s with journal := {
      stored := s.journal.stored ++ [e], nextSeq := s.journal.nextSeq + 1
      places := rest ++ s.journal.waiting.take 1, waiting := s.journal.waiting.drop 1, inFlight := false } }
    (∀ o, b = .orphan o →
      exec .appendComplete s = .next (after { seq := s.journal.nextSeq, time := o.time, body := b })) ∧
    (∀ oldK k oldC c count, b = .calibration oldK k oldC c count →
      exec .appendComplete s = .next { after { seq := s.journal.nextSeq, time := now, body := b } with
        meas := { s.meas with
          cal := { s.meas.cal with k := k, ceiling := c, count := count }
          run := .idle, sealState := s.meas.sealInput } }) ∧
    (∀ old v, b = .tariff old v →
      exec .appendComplete s = .next (({ after { seq := s.journal.nextSeq, time := now, body := b } with
        store := { s.store with
          activeVersion := v, active := s.store.staged, staged := TariffSet.empty, stage := .idle } } : State).raise
            .tariffActive)))

/-- R80, R131, R144 and R135: a TRIP completion counts the trip once and clears its slot; a SHIFT completion closes the shift
with the entry's time and advances its number. R129: the limit-reached flag is set once a money counter has reached
999,999,999. -/
def Obligations.TripsAreCountedAndShiftsClose : Prop :=
  (∀ (a pay ref excess : Nat) (above : Bool),
    (Tender.cash a).cashApplied = a ∧ (Tender.cash a).onlineApplied = 0 ∧ (Tender.cash a).offlineApplied = 0 ∧
    (Tender.cash a).beyond = false ∧
    (Tender.cardOnline a pay ref excess).cashApplied = 0 ∧ (Tender.cardOnline a pay ref excess).onlineApplied = a ∧
    (Tender.cardOnline a pay ref excess).offlineApplied = 0 ∧ (Tender.cardOnline a pay ref excess).beyond = false ∧
    (Tender.cardOffline a pay ref excess above).cashApplied = 0 ∧
    (Tender.cardOffline a pay ref excess above).onlineApplied = 0 ∧
    (Tender.cardOffline a pay ref excess above).offlineApplied = a ∧
    (Tender.cardOffline a pay ref excess above).beyond = above) ∧
  (∀ (s : State) (e : TripEntry) (rest : List EntryBody), s.powered = true → s.journal.inFlight = true →
    s.journal.places = .trip e :: rest →
    ∃ t, exec .appendComplete s = .next t ∧
      t.table = { s.table with slots := s.table.slots.set e.slot none } ∧
      t.journal.stored = s.journal.stored ++
        [⟨s.journal.nextSeq, { clock := s.store.clock, invalid := s.store.clockInvalid }, .trip e⟩] ∧
      t.shift.totals.trips = min max32 (s.shift.totals.trips + 1) ∧
      t.shift.totals.fares = min max32 (s.shift.totals.fares + e.fare) ∧
      t.shift.totals.distance = s.shift.totals.distance ∧
      (s.shift.state = .opened →
        t.shift.counters.trips = min max32 (s.shift.counters.trips + 1) ∧
        t.shift.counters.shared = min max32 (s.shift.counters.shared + (if 2 ≤ e.mostConcurrent then 1 else 0)) ∧
        t.shift.counters.fareTotal = min shiftMoneyMax (s.shift.counters.fareTotal + e.fare) ∧
        t.shift.counters.surcharges = min shiftMoneyMax (s.shift.counters.surcharges +
          ((e.extras.filter (fun x => x.cls = .surcharge)).map (·.amount)).sum) ∧
        t.shift.counters.passThroughs = min shiftMoneyMax (s.shift.counters.passThroughs +
          ((e.extras.filter (fun x => x.cls = .passThrough)).map (·.amount)).sum) ∧
        t.shift.counters.tips = min shiftMoneyMax (s.shift.counters.tips + e.tip) ∧
        t.shift.counters.cash = min shiftMoneyMax (s.shift.counters.cash + (e.tenders.map Tender.cashApplied).sum) ∧
        t.shift.counters.cardOnline =
          min shiftMoneyMax (s.shift.counters.cardOnline + (e.tenders.map Tender.onlineApplied).sum) ∧
        t.shift.counters.cardOffline =
          min shiftMoneyMax (s.shift.counters.cardOffline + (e.tenders.map Tender.offlineApplied).sum) ∧
        t.shift.counters.overAllowance = min max32 (s.shift.counters.overAllowance + e.tenders.countP Tender.beyond) ∧
        let c := t.shift.counters
        (t.shift.limitReached = true ↔ s.shift.limitReached = true ∨ c.fareTotal = 999999999 ∨ c.surcharges = 999999999 ∨
          c.passThroughs = 999999999 ∨ c.tips = 999999999 ∨ c.cash = 999999999 ∨ c.cardOnline = 999999999 ∨
          c.cardOffline = 999999999)) ∧
      (s.shift.state ≠ .opened →
        t.shift.counters = s.shift.counters ∧ t.shift.limitReached = s.shift.limitReached) ∧
      t.shift.state = s.shift.state ∧ t.sign.state = t.deriveSign ∧ t.meas = s.meas ∧ t.store = s.store ∧
      t.pay = s.pay ∧ t.intercom = s.intercom ∧ t.notices = s.notices) ∧
  (∀ (s : State) (r : ShiftReport) (rest : List EntryBody), s.powered = true → s.journal.inFlight = true →
    s.journal.places = .shift r :: rest →
    let now : Stamp := { clock := s.store.clock, invalid := s.store.clockInvalid }
    ∃ t, exec .appendComplete s = .next t ∧
      t.shift = { s.shift with
        state := .closed, closeTime := some now
        number := match s.shift.number with
          | some n => if n < max32 then some (n + 1) else none
          | none => none } ∧
      t.journal.stored = s.journal.stored ++
        [{ seq := s.journal.nextSeq, time := now, body := .shift { r with closeTime := some now } }] ∧
      t.notices = (s.raise .shiftClosed).notices ∧ t.table = s.table ∧ t.sign.state = t.deriveSign ∧
      t.meas = s.meas ∧ t.store = s.store ∧ t.pay = s.pay ∧ t.intercom = s.intercom)

/-- R114: a completion changes neither the queued count plus the stored count nor the free count. -/
def Obligations.CompletionKeepsTheFreeCount : Prop :=
  ∀ s t : State, exec .appendComplete s = .next t →
    t.journal.stored.length + t.journal.queued = s.journal.stored.length + s.journal.queued ∧
    (s.journal.queued ≤ 256 - s.journal.stored.length → s.journal.nextSeq + s.journal.queued ≤ 4294967296 →
      t.journal.free = s.journal.free)

/-! ## The shift (chapter 7) -/

/-- R133 and R134 accepted, and the figures of R139 that the closing report carries, with the open time of the shift
(R138), an absent one as zeros (R201); R129: SHIFT_OPEN sets every counter to 0; R138, R129 and R204: the bytes of a
report. The K that the record keeps for the closed shift is the model's reading (log 17), and so are the 0 for an
absent shift number (log 12) and the 5-byte clock items (log 13). -/
def Obligations.ShiftsOpenAndClose : Prop :=
  (∀ (s : State) (driver : BitVec 32) (n : Nat), s.powered = true → 1 ≤ driver.toNat → driver.toNat ≤ 999999 →
    s.shift.state = .closed → s.meas.run.isAdopting = false → 1 ≤ s.journal.free → s.shift.number = some n →
    let now : Stamp := { clock := s.store.clock, invalid := s.store.clockInvalid }
    exec (.shiftOpen .console driver) s = .next ((State.updateSign { s with shift := { s.shift with
        state := .opened, driver := some driver.toNat, openTime := some now, closeTime := none, closingRate := none
        closingK := none, counters := Counters.zero, limitReached := false } }).putReply .console 36 .ok
          (u32 n ++ u32 driver.toNat ++ clockValue now))) ∧
  (∀ s : State, s.powered = true → s.shift.state = .opened → s.nonVacant = 0 →
    ∃ r : ShiftReport,
      r.openTime = s.shift.openTime.getD { clock := 0, invalid := false } ∧
      r.number = s.shift.number.getD 0 ∧ r.driver = s.shift.driver.getD 0 ∧ r.closeTime = none ∧
      r.counters = s.shift.counters ∧ r.limitReached = s.shift.limitReached ∧ r.k = s.meas.cal.k ∧
      r.rate = s.shift.commission ∧
      r.hiredMetres = s.shift.counters.hiredPulses * 1000 / s.meas.cal.k ∧
      r.totalMetres = s.shift.counters.totalPulses * 1000 / s.meas.cal.k ∧
      r.base = s.shift.counters.fareTotal + s.shift.counters.surcharges ∧
      r.share = min 999999999 ((r.base * s.shift.commission + 500) / 1000) ∧
      r.netOwed = max (-999999999) ((s.shift.counters.cash : Int) - r.share - s.shift.counters.tips) ∧
      exec (.shiftClose .console) s = .next ((State.updateSign { s with
        shift := { s.shift with
          state := .closing, closingRate := some s.shift.commission, closingK := some s.meas.cal.k }
        journal := s.journal.append (.shift r)
        table := { s.table with onCall := false } }).putReply .console 37 .ok (reportBytes r))) ∧
  (∀ r : ShiftReport,
    let c := r.counters
    let net := max (-999999999) ((c.cash : Int) - min 999999999 ((r.base * r.rate + 500) / 1000) - c.tips)
    let late := match r.closeTime with
      | some x => x.invalid
      | none => false
    let flag := fun b : Bool => u8 (if b then 1 else 0)
    reportBytes r = flag r.closeTime.isSome ++ reportItems r ∧
    reportItems r = u32 r.number ++ u32 r.driver ++ (u32 r.openTime.clock ++ flag r.openTime.invalid) ++
      (u32 ((r.closeTime.map (·.clock)).getD 0) ++ flag late) ++ flag (r.openTime.invalid || late) ++
      (u32 c.trips ++ u32 c.shared ++ u32 c.hiredPulses ++ u32 c.totalPulses ++ u32 c.fareTotal ++ u32 c.surcharges ++
       u32 c.passThroughs ++ u32 c.tips ++ u32 c.cash ++ u32 c.cardOnline ++ u32 c.cardOffline ++ u32 c.overAllowance ++
       u32 c.declines ++ u32 c.aborts ++ u32 c.expiries ++ u32 c.orphans ++ u32 c.overruns ++ u32 c.excessPulses ++
       u32 c.lampFaults ++ u32 c.powerInterruptions) ++
      flag r.limitReached ++ u16 r.k ++ u64 (c.hiredPulses * 1000 / r.k) ++ u64 (c.totalPulses * 1000 / r.k) ++
      u16 r.rate ++ u32 (c.fareTotal + c.surcharges) ++ u32 r.share ++ u32 (net % 4294967296).toNat) ∧
  Counters.zero =
    { trips := 0, shared := 0, hiredPulses := 0, totalPulses := 0, fareTotal := 0, surcharges := 0, passThroughs := 0
      tips := 0, cash := 0, cardOnline := 0, cardOffline := 0, overAllowance := 0, declines := 0, aborts := 0
      expiries := 0, orphans := 0, overruns := 0, excessPulses := 0, lampFaults := 0, powerInterruptions := 0 } ∧
  (∀ x : Stamp, clockValue x = u32 x.clock ++ u8 (if x.invalid then 1 else 0))

/-! ## The sign (chapter 8) -/

/-- R146: the sign state is the first row of the table that holds. -/
def Obligations.SignFollowsTheTable : Prop :=
  ∀ s : State,
    s.nonVacant = (List.finRange 4).countP (fun i => (s.party i).isSome) ∧
    (s.shift.state = .closed ∨ s.shift.state = .closing → s.deriveSign = .dark) ∧
    (s.shift.state = .opened → s.nonVacant = 0 → s.table.offDuty = true → s.deriveSign = .offDuty) ∧
    (s.shift.state = .opened → s.nonVacant = 0 → s.table.offDuty = false → s.table.onCall = true →
      s.deriveSign = .onCall) ∧
    (s.shift.state = .opened → s.nonVacant = 0 → s.table.offDuty = false → s.table.onCall = false →
      s.deriveSign = .free) ∧
    (s.shift.state = .opened → s.nonVacant ≠ 0 → (∀ i x, s.party i = some x → x.state ≠ .running) →
      s.deriveSign = .arrived) ∧
    (s.shift.state = .opened → (∃ i x, s.party i = some x ∧ x.state = .running) →
      s.deriveSign = if s.nonVacant < s.table.seatLimit then .shareOpen else .hired)

/-- R150 to R153, R157 and R148: the brightness, the lamp test and its expiry, the clearing of the faults, and the end
of a BLINK or STROBE phase. R149: a modulation period runs in an on phase alone, and a channel's output is driven for
its first on-slot count of slots. R147: the sign derived afresh, which `State.updateSign` names in every statement about
a command: another state is entered, with the phase timer at 0 and every channel in its mode there, a BLINK or STROBE
channel at the start of an on phase; for the state in force the phase timer and the channels run on. The jump of a
phase change to the end of its phase (log 7), the presence byte of the raised levels (log 14), LAMP_CLEAR's four flags
(log 15), the expiry taken only once the timer has run out (log 5), and the slot within a period with the on phases
that go on in theirs (log 25) are the model's readings. -/
def Obligations.LampRequestsAreTaken : Prop :=
  let settled := fun (g : Sign) (i : Fin 4) (before after : Lamp) =>
    (g.channelLit i after = false → after.period = none) ∧
    (g.channelLit i after = true → after.period = some (before.period.getD { slot := 0, width := (g.level * 256 + 50) / 100 }))
  (∀ (s : State) (day night : Byte), s.powered = true → day.toNat ≤ 100 → night.toNat ≤ 100 →
    let d := max 40 day.toNat
    let n := max 40 night.toNat
    let level := if s.sign.period = .night then n else d
    exec (.setBrightness .console day night) s = .next
      (({ s with sign := { s.sign with dayLevel := d, nightLevel := n, level := level } } : State).putReply .console 44
        (if day.toNat < 40 ∨ night.toNat < 40 then .clamped else .ok)
        (u8 ((if day.toNat < 40 then 1 else 0) + (if night.toNat < 40 then 2 else 0)) ++
          u8 (if day.toNat < 40 then 40 else 0) ++ u8 (if night.toNat < 40 then 40 else 0) ++ u8 d ++ u8 n ++
          u16 ((level * 256 + 50) / 100)))) ∧
  (∀ (s : State) (a b c d : Byte), s.powered = true → a.toNat ≤ 2 → b.toNat ≤ 2 → c.toNat ≤ 2 → d.toNat ≤ 2 →
    s.nonVacant = 0 →
    let setting := fun x : Byte => if x.toNat = 0 then Override.normal else if x.toNat = 1 then .on else .off
    ∃ g : Sign, exec (.lampTest .console a b c d) s = .next
        (({ s with sign := g } : State).putReply .console 45 .ok (u8 a.toNat ++ u8 b.toNat ++ u8 c.toNat ++ u8 d.toNat)) ∧
      g = { s.sign with lamps := g.lamps, test := g.test } ∧
      (g.lamps[(0 : Fin 4)]).override = setting a ∧ (g.lamps[(1 : Fin 4)]).override = setting b ∧
      (g.lamps[(2 : Fin 4)]).override = setting c ∧ (g.lamps[(3 : Fin 4)]).override = setting d ∧
      (∀ i : Fin 4, (g.lamps[i]).dark = (s.sign.lamps[i]).dark ∧ (g.lamps[i]).latch = (s.sign.lamps[i]).latch ∧
        settled g i s.sign.lamps[i] g.lamps[i]) ∧
      g.test = (if a = 0 ∧ b = 0 ∧ c = 0 ∧ d = 0 then none else some 10000)) ∧
  (∀ s : State, s.powered = true →
    ∃ g : Sign, exec (.lampClear .console) s = .next (({ s with sign := g } : State).putReply .console 46 .ok
        ((List.finRange 4).flatMap (fun i => u8 (if (s.sign.lamps[i]).latch then 1 else 0)))) ∧
      g = { s.sign with lamps := g.lamps } ∧
      ∀ i : Fin 4, g.lamps[i] = { s.sign.lamps[i] with dark := 0, latch := false }) ∧
  (∀ s : State, s.powered = true → s.sign.test ≠ some 0 → exec .testTimerExpiry s = .next s) ∧
  (∀ s : State, s.powered = true → s.sign.test = some 0 →
    ∃ g : Sign, exec .testTimerExpiry s = .next { s with sign := g } ∧
      g = { s.sign with lamps := g.lamps, test := none } ∧
      ∀ i : Fin 4, g.lamps[i] = { s.sign.lamps[i] with override := .normal, period := (g.lamps[i]).period } ∧
        settled g i s.sign.lamps[i] g.lamps[i]) ∧
  (∀ s : State, s.powered = true →
    ∃ g : Sign, exec .lampPhaseChange s = .next { s with sign := g } ∧
      (s.sign.state ≠ .arrived → s.sign.state ≠ .onCall → g = s.sign) ∧
      (s.sign.state = .arrived → g.phase = if s.sign.phase < 500 then 500 else 0) ∧
      (s.sign.state = .onCall → g.phase = if s.sign.phase < 100 then 100 else 0) ∧
      g = { s.sign with phase := g.phase, lamps := g.lamps } ∧
      (s.sign.state = .arrived ∨ s.sign.state = .onCall →
        ∀ i : Fin 4, g.lamps[i] = { s.sign.lamps[i] with period := (g.lamps[i]).period } ∧
          settled g i s.sign.lamps[i] g.lamps[i])) ∧
  (∀ l : Lamp, (l.period = none → l.driven = false) ∧
    (∀ m, l.period = some m → (l.driven = true ↔ m.slot < m.width))) ∧
  (∀ s : State,
    let g := s.updateSign.sign
    (s.deriveSign = s.sign.state → s.updateSign = s) ∧
    (s.deriveSign ≠ s.sign.state → s.updateSign = { s with sign := g } ∧
      g = { s.sign with state := s.deriveSign, phase := 0, lamps := g.lamps } ∧
      ∀ i : Fin 4,
        let l := s.sign.lamps[i]
        let mode := channelMode s.deriveSign i
        let begins := l.override = .normal ∧ (mode = .blink ∨ mode = .strobe)
        g.lamps[i] = { l with period := (g.lamps[i]).period } ∧
        (g.channelLit i g.lamps[i] = true ↔ l.override = .on ∨ l.override = .normal ∧ mode ≠ .dark) ∧
        (begins → (g.lamps[i]).period = some { slot := 0, width := (s.sign.level * 256 + 50) / 100 }) ∧
        (¬begins → settled g i l g.lamps[i]))) ∧
  (let modes := fun st : SignState => [channelMode st 0, channelMode st 1, channelMode st 2, channelMode st 3]
   modes .dark = [.dark, .dark, .dark, .dark] ∧ modes .offDuty = [.dark, .dark, .dark, .steady] ∧
   modes .free = [.steady, .dark, .dark, .dark] ∧ modes .onCall = [.strobe, .dark, .dark, .dark] ∧
   modes .shareOpen = [.dark, .steady, .steady, .dark] ∧ modes .hired = [.dark, .steady, .dark, .dark] ∧
   modes .arrived = [.dark, .blink, .dark, .dark])

/-! ## The intercom (chapter 9) -/

/-- R162, R167, R168 and R165: the path gain, the mode with the floor dropped on leaving HALF_DUPLEX, and the mutes;
what an update leaves of a gate, and the expiry of its release timer, which acts once the timer has run out (log 5).
R163: the mute factors of the two paths. The reply of SET_INTERCOM_MODE with the mode already held is the model's
reading (log 29). -/
def Obligations.IntercomIsSetAndGatesFollow : Prop :=
  (∀ (s : State) (path : AudioPath) (gain delay : BitVec 16), s.powered = true → gain.toNat ≤ 1023 →
    (delay.toNat = 0 ∨ delay.toNat = 100 ∨ delay.toNat = 200 ∨ delay.toNat = 300) →
    let l := s.intercom.paths.get path
    exec (.setPathGain .console (match path with | .frontToRear => 0#8 | .rearToFront => 1#8) gain delay) s = .next
      (({ s with intercom := { s.intercom with
          paths := s.intercom.paths.set path { l with gain := gain.toNat, release := delay.toNat } } } : State).putReply
        .console 48 .ok (u16 l.gain ++ u16 l.release ++ u16 gain.toNat ++ u16 delay.toNat))) ∧
  (∀ (s : State) (mode : Byte) (m : IntercomMode), s.powered = true → mode.toNat = modeCode m →
    let dropped : Intercom := { s.intercom with mode := m, floor := none, claimant := none, floorTimer := none }
    let reply := u8 (modeCode s.intercom.mode) ++ u8 (modeCode m)
    (m = s.intercom.mode → exec (.setIntercomMode .console mode) s = .next (s.putReply .console 49 .ok reply)) ∧
    (m ≠ s.intercom.mode → s.intercom.mode ≠ .halfDuplex → exec (.setIntercomMode .console mode) s =
      .next ((State.settleGates { s with intercom := { s.intercom with mode := m } }).putReply .console 49 .ok reply)) ∧
    (m ≠ s.intercom.mode → s.intercom.mode = .halfDuplex → s.intercom.floor = none →
      exec (.setIntercomMode .console mode) s =
        .next ((State.settleGates { s with intercom := dropped }).putReply .console 49 .ok reply)) ∧
    (m ≠ s.intercom.mode → s.intercom.mode = .halfDuplex → s.intercom.floor ≠ none →
      exec (.setIntercomMode .console mode) s =
        .next ((({ s with intercom := dropped } : State).raise .talkFloor).settleGates.putReply .console 49 .ok reply))) ∧
  (∀ (s : State) (mute privacy : Byte), s.powered = true → mute.toNat ≤ 1 → privacy.toNat ≤ 1 →
    exec (.setIntercomMute .console mute privacy) s = .next
      ((State.settleGates { s with intercom := { s.intercom with
        driverMute := decide (mute.toNat = 1), privacy := decide (privacy.toNat = 1) } }).putReply .console 50 .ok
          (u8 mute.toNat ++ u8 privacy.toNat))) ∧
  (∀ (s : State) (path : AudioPath),
    let l := s.intercom.paths.get path
    let g := (s.settleGates.intercom.paths.get path).gate
    ((s.factors path).any = true → g = .muted) ∧
    ((s.factors path).any = false → l.gate = .muted → l.release ≠ 0 → g = .releasing l.release) ∧
    ((s.factors path).any = false → l.gate = .muted → l.release = 0 → g = .passing) ∧
    ((s.factors path).any = false → l.gate ≠ .muted → g = l.gate)) ∧
  (∀ s : State,
    let c := s.intercom
    let rate := c.codecs.front.fault || c.codecs.rear.fault
    let floor := fun side : TalkSide => decide (c.mode = .halfDuplex) && decide (c.floor = some side)
    s.factors .frontToRear =
      { rate := rate, closed := decide (c.mode = .closed), driverMute := c.driverMute, privacy := false, pin := false
        pinGuard := false, floor := floor .rear, tone := c.speakers.rear.playing.isSome } ∧
    s.factors .rearToFront =
      { rate := rate, closed := decide (c.mode = .closed), driverMute := false, privacy := c.privacy
        pin := decide (s.pay.session.map (·.pinEntry) = some true), pinGuard := s.pay.guardTimer.isSome
        floor := floor .driver, tone := c.speakers.front.playing.isSome }) ∧
  (∀ f : Factors, f.any = true ↔ f.rate = true ∨ f.closed = true ∨ f.driverMute = true ∨ f.privacy = true ∨
    f.pin = true ∨ f.pinGuard = true ∨ f.floor = true ∨ f.tone = true) ∧
  (∀ (s : State) (path : AudioPath), s.powered = true → (s.intercom.paths.get path).gate ≠ .releasing 0 →
    exec (.releaseTimerExpiry path) s = .next s) ∧
  (∀ (s : State) (path : AudioPath), s.powered = true → (s.intercom.paths.get path).gate = .releasing 0 →
    exec (.releaseTimerExpiry path) s = .next { s with intercom := { s.intercom with
      paths := s.intercom.paths.set path { (s.intercom.paths.get path) with gate := .passing } } })

/-- R170 to R173 and R175: the presses and releases of the talk keys, the floor timer's expiry, which acts once the
timer has run out (log 5), and the rear call. R169: what a press changes outside HALF_DUPLEX. That a press or a release
puts the key's input at its level with nothing counted is the model's choice (log 24), and so is that a press of a
pressed key and a release of a released one change nothing (log 5). The 30 ms of R169 pass in idle steps
(IdleStepIsOneMillisecond). -/
def Obligations.FloorMovesWithTheKeys : Prop :=
  let moved := fun (s : State) (side : TalkSide) (level : Bool) =>
    { s.intercom.keyPins.get side with level := level, stable := 0 }
  (∀ (s : State) (side : TalkSide), s.powered = true → s.intercom.keys.get side = false →
    s.intercom.mode = .halfDuplex →
    let pressed : Intercom := { s.intercom with
      keys := s.intercom.keys.set side true, keyPins := s.intercom.keyPins.set side (moved s side true) }
    (s.intercom.floor = none → exec (.talkKeyPress side) s = .next ((({ s with intercom := { pressed with
        floor := some side, claimant := none, floorTimer := some 60000 } } : State).raise .talkFloor).settleGates)) ∧
    (s.intercom.floor = some (otherSide side) → (side = .rear ∨ s.intercom.override = false) →
      exec (.talkKeyPress side) s =
        .next (State.settleGates { s with intercom := { pressed with claimant := some side } })) ∧
    (s.intercom.floor = some .rear → side = .driver → s.intercom.override = true →
      exec (.talkKeyPress side) s = .next ((({ s with intercom := { pressed with
        floor := some .driver, claimant := if s.intercom.keys.rear then some .rear else none
        floorTimer := some 60000 } } : State).raise .talkFloor).settleGates))) ∧
  (∀ s : State, s.powered = true → s.intercom.keys.rear = false → s.intercom.mode = .closed →
    exec (.talkKeyPress .rear) s = .next ((((({ s with intercom := { s.intercom with
      keys := s.intercom.keys.set .rear true, keyPins := s.intercom.keyPins.set .rear (moved s .rear true) } } :
        State).requestTone .front .call).raise .rearCall).settleGates))) ∧
  (∀ (s : State) (side : TalkSide), s.powered = true → s.intercom.keys.get side = true →
    let released : Intercom := { s.intercom with
      keys := s.intercom.keys.set side false, keyPins := s.intercom.keyPins.set side (moved s side false) }
    (s.intercom.floor ≠ some side → exec (.talkKeyRelease side) s = .next { s with intercom := released }) ∧
    (s.intercom.floor = some side → s.intercom.claimant = some (otherSide side) →
      s.intercom.keys.get (otherSide side) = true →
      exec (.talkKeyRelease side) s = .next ((({ s with intercom := { released with
        floor := some (otherSide side), claimant := none, floorTimer := some 60000 } } : State).raise
          .talkFloor).settleGates)) ∧
    (s.intercom.floor = some side →
      (s.intercom.claimant = none ∨
        s.intercom.claimant = some (otherSide side) ∧ s.intercom.keys.get (otherSide side) = false) →
      exec (.talkKeyRelease side) s = .next ((({ s with intercom := { released with
        floor := none, claimant := none, floorTimer := none } } : State).raise .talkFloor).settleGates))) ∧
  (∀ (s : State) (side : TalkSide), s.powered = true → s.intercom.keys.get side = false →
    s.intercom.mode = .fullDuplex ∨ s.intercom.mode = .closed ∧ side = .driver →
    exec (.talkKeyPress side) s =
      .next { s with intercom := { s.intercom with
        keys := s.intercom.keys.set side true, keyPins := s.intercom.keyPins.set side (moved s side true) } }) ∧
  (∀ (s : State) (side : TalkSide), s.powered = true →
    (s.intercom.keys.get side = true → exec (.talkKeyPress side) s = .next s) ∧
    (s.intercom.keys.get side = false → exec (.talkKeyRelease side) s = .next s)) ∧
  (∀ s : State, s.powered = true → s.intercom.floorTimer ≠ some 0 → exec .floorTimerExpiry s = .next s) ∧
  (∀ s : State, s.powered = true → s.intercom.floorTimer = some 0 →
    (∀ side, s.intercom.claimant = some side → s.intercom.keys.get side = true →
      exec .floorTimerExpiry s = .next ((({ s with intercom := { s.intercom with
        floor := some side, claimant := none, floorTimer := some 60000 } } : State).raise .talkFloor).settleGates)) ∧
    (s.intercom.claimant = none ∨ (∃ side, s.intercom.claimant = some side ∧ s.intercom.keys.get side = false) →
      exec .floorTimerExpiry s = .next ((({ s with intercom := { s.intercom with
      floor := none, claimant := none, floorTimer := none } } : State).raise .talkFloor).settleGates)))

/-- R166, R159, R160, R162, R176 and R178: a frame gives a playing tone's sample, or the path's scaled source sample
through a PASSING gate, or 0, and the last sample of a tone ends it; R177 and R180: PLAY_TONE starts, queues, merges
or drops a tone and says which; R176: the five tones, frame by frame. That TONE_END answers what CODEC_FRAME answers
at a tone's last frame is the model's reading (log 6), and so are the order of PLAY_TONE's items (log 15) and its
replies without a presence field (log 35). -/
def Obligations.FramesAndTonesArePlayed : Prop :=
  (∀ (s : State) (side : CodecSide) (mic : BitVec 16), s.powered = true →
    let x := s.intercom.speakers.get side
    let l := s.intercom.paths.get (pathTo side)
    ∃ t, exec (.codecFrame side mic) s = .next t ∧
      (t.intercom.codecs.get side).frames = min 65535 ((s.intercom.codecs.get side).frames + 1) ∧
      (t.intercom.paths.get (pathFrom side)).held = some mic.toInt ∧ (t.intercom.paths.get (pathTo side)).held = none ∧
      (∀ y, x.playing = some y → (t.intercom.speakers.get side).output = toneSample y.tone y.given) ∧
      (∀ v, x.playing = none → l.gate = .passing → l.held = some v → (t.intercom.speakers.get side).output =
        max (-32768) (min 32767 ((v * l.gain + 128) / 256))) ∧
      (x.playing = none → l.gate = .passing → l.held = none → (t.intercom.speakers.get side).output = 0) ∧
      (x.playing = none → l.gate ≠ .passing → (t.intercom.speakers.get side).output = 0) ∧
      (∀ y, x.playing = some y → y.given + 1 < toneFrames y.tone →
        (t.intercom.speakers.get side).playing = some { y with given := y.given + 1 } ∧
        (t.intercom.speakers.get side).waiting = x.waiting) ∧
      (∀ y, x.playing = some y → toneFrames y.tone ≤ y.given + 1 →
        exec (.toneEnd side mic) s = .next t ∧
        (t.intercom.speakers.get side).playing = x.waiting.head?.map (fun w => { tone := w, given := 0 }) ∧
        (t.intercom.speakers.get side).waiting = x.waiting.tail) ∧
      t.meas = s.meas ∧ t.table = s.table ∧ t.pay = s.pay ∧ t.notices = s.notices ∧ t.shift = s.shift) ∧
  (∀ (s : State) (tone speaker : Byte) (t : Tone) (side : CodecSide), s.powered = true → tone.toNat = toneCode t →
    speaker.toNat = (match side with | .front => 0 | .rear => 1) →
    let x := s.intercom.speakers.get side
    let put := fun y : Speaker => State.settleGates { s with intercom := { s.intercom with
      speakers := s.intercom.speakers.set side y } }
    (x.playing = none → exec (.playTone .console tone speaker) s = .next
      ((put { x with playing := some { tone := t, given := 0 } }).putReply .console 52 .ok
        (u8 0 ++ u8 x.waiting.length))) ∧
    (x.playing ≠ none → t ∈ x.waiting → exec (.playTone .console tone speaker) s = .next
      ((put x).putReply .console 52 .ok (u8 2 ++ u8 x.waiting.length))) ∧
    (x.playing ≠ none → t ∉ x.waiting → x.waiting.length < 4 → exec (.playTone .console tone speaker) s = .next
      ((put { x with waiting := x.waiting ++ [t] }).putReply .console 52 .ok (u8 1 ++ u8 (x.waiting.length + 1)))) ∧
    (x.playing ≠ none → t ∉ x.waiting → 4 ≤ x.waiting.length → exec (.playTone .console tone speaker) s = .next
      ((put { x with drops := min 65535 (x.drops + 1) }).putReply .console 52 .full (u16 (min 65535 (x.drops + 1)))))) ∧
  (∀ (s : State) (side : CodecSide) (t : Tone),
    let x := s.intercom.speakers.get side
    s.requestTone side t =
      { s with intercom := { s.intercom with speakers := s.intercom.speakers.set side (x.take t) } } ∧
    (x.playing = none → x.take t = { x with playing := some { tone := t, given := 0 } }) ∧
    (x.playing ≠ none → t ∈ x.waiting → x.take t = x) ∧
    (x.playing ≠ none → t ∉ x.waiting → x.waiting.length < 4 → x.take t = { x with waiting := x.waiting ++ [t] }) ∧
    (x.playing ≠ none → t ∉ x.waiting → 4 ≤ x.waiting.length → x.take t = { x with drops := min 65535 (x.drops + 1) })) ∧
  (toneFrames .call = 6400 ∧ toneFrames .start = 1280 ∧ toneFrames .approved = 4000 ∧ toneFrames .declined = 6400 ∧
    toneFrames .expired = 8000) ∧
  (∀ i : Nat,
    let beep := fun (half n : Nat) => if n / half % 2 = 0 then (8192 : Int) else -8192
    (i < 6400 → toneSample .call i =
      if i < 2400 then beep 8 i else if i < 4000 then 0 else beep 8 (i - 4000)) ∧
    (i < 1280 → toneSample .start i = beep 4 i) ∧
    (i < 4000 → toneSample .approved i = if i < 1600 then beep 16 i else beep 8 (i - 1600)) ∧
    (i < 6400 → toneSample .declined i = beep 32 i) ∧
    (i < 8000 → toneSample .expired i = if i / 1600 % 2 = 0 then beep 16 (i % 1600) else 0))

/-! ## Notices, messages and ports (chapters 10 and 11) -/

/-- R184 and R187 to R189: a raised source becomes pending at the ports of its route; TAKE and CLEAR_NOTICES remove
pulse sources of the calling port alone; SET_NOTICE_ENABLE replaces its enable set. R185, R119, R156, R161 and R29:
the five level sources, their conditions and their place in the pending set; R186: the notice line of a powered part.
-/
def Obligations.NoticesAreRaisedAndCleared : Prop :=
  (∀ (s : State) (src : NoticeSource) (p : Port),
    ((s.raise src).notices.ports.get p).pulses =
      (if (s.notices.route src).has p then (s.notices.ports.get p).pulses ||| (1#16 <<< (src.number - 1))
       else (s.notices.ports.get p).pulses) ∧
    ((s.raise src).notices.ports.get p).enabled = (s.notices.ports.get p).enabled ∧
    ((s.raise src).notices.ports.get p).messages = (s.notices.ports.get p).messages ∧
    (s.raise src).notices.routes = s.notices.routes) ∧
  (∀ (s : State) (p : Port), s.powered = true →
    let x := s.notices.ports.get p
    let put := fun y : PortNotices => { s with notices := { s.notices with ports := s.notices.ports.set p y } }
    let results := u32 (s.pendingSet p).toNat ++ u32 x.enabled.toNat ++
      u8 (if s.pendingSet p &&& x.enabled = 0 then 0 else 1) ++ u8 x.messages.length ++
      levelSources.flatMap (fun src => u8 (if s.levelHolds src then 1 else 0))
    exec (.readNotices p 0#8) s = .next (s.putReply p 54 .ok results) ∧
    exec (.readNotices p 1#8) s = .next ((put { x with pulses := 0 }).putReply p 54 .ok results) ∧
    (∀ w : BitVec 32, w.toNat < 2 ^ 21 →
      let cleared := put { x with pulses := x.pulses &&& ~~~(w.setWidth 16) }
      let enabled := put { x with enabled := w.setWidth 21 }
      exec (.clearNotices p w) s = .next (cleared.putReply p 55 .ok (u32 (cleared.pendingSet p).toNat)) ∧
      exec (.setNoticeEnable p w) s =
        .next (enabled.putReply p 56 .ok (u32 w.toNat ++ u32 (enabled.pendingSet p).toNat)))) ∧
  (∀ s : State,
    (s.levelHolds .journalNearFull = true ↔ 224 ≤ s.journal.stored.length + s.journal.queued) ∧
    (s.levelHolds .journalFull = true ↔ s.journal.free = 0) ∧
    (s.levelHolds .lampFault = true ↔ ∃ i : Fin 4, (s.sign.lamps[i]).latch = true) ∧
    (s.levelHolds .audioRateFault = true ↔ s.intercom.codecs.front.fault = true ∨ s.intercom.codecs.rear.fault = true) ∧
    (s.levelHolds .clockInvalid = true ↔ s.store.clockInvalid = true) ∧
    s.journal.free = min (256 - s.journal.stored.length - s.journal.queued)
      (4294967296 - s.journal.nextSeq - s.journal.queued)) ∧
  (∀ (s : State) (p : Port),
    (∀ k, k < 16 → (s.pendingSet p).getLsbD k = (s.notices.ports.get p).pulses.getLsbD k) ∧
    (∀ src, src ∈ levelSources →
      (s.pendingSet p).getLsbD (src.number - 1) = (s.levelHolds src && (s.notices.route src).has p)) ∧
    (s.powered = true →
      (s.noticeLine p = true ↔ s.pendingSet p &&& (s.notices.ports.get p).enabled ≠ 0) ∧
      (s.readyLine p = true ↔ (s.ports.get p).reply ≠ none))) ∧
  (levelSources.map NoticeSource.number = [17, 18, 19, 20, 21] ∧
    ∀ (n : Notices) (src : NoticeSource), src ≠ .message → ∃ i : Fin 20, n.route src = n.routes[i] ∧
      i.val + (if src.number < 15 then 1 else 2) = src.number)

/-- R191, R192 and R193: SET_ROUTE joins the given set with the source's minimum (the presence byte of 'ports added'
in its reply is the model's reading, log 14); POST_MESSAGE appends to the target's queue and makes MESSAGE pending
there alone, or is refused RANGE or FULL; TAKE_MESSAGE takes the oldest, or is answered UNKNOWN. R183: the number of each
source, its default route and its mandatory minimum, of which MESSAGE has neither. -/
def Obligations.RoutesAndMessagesAreKept : Prop :=
  (∀ (s : State) (source ports : Byte) (i : Fin 20), s.powered = true → routeIndex source.toNat = some i →
    ports.toNat < 8 →
    let given : PortSet := ⟨ports.getLsbD 0, ports.getLsbD 1, ports.getLsbD 2⟩
    let now := PortSet.union given mandatoryMinimums[i]
    let added := PortSet.diff mandatoryMinimums[i] given
    exec (.setRoute .fleet source ports) s = .next
      (({ s with notices := { s.notices with routes := s.notices.routes.set i now } } : State).putReply .fleet 58
        (if added = PortSet.empty then .ok else .clamped)
        (u8 (if added = PortSet.empty then 0 else 1) ++ u8 (portSetCode added) ++
          u8 (portSetCode s.notices.routes[i]) ++ u8 (portSetCode now)))) ∧
  (∀ (s : State) (p q : Port) (target : Byte) (text : List Byte), s.powered = true → target.toNat = portCode q →
    q ≠ p → 1 ≤ text.length → text.length ≤ 32 → (∀ c ∈ text, 32 ≤ c.toNat ∧ c.toNat ≤ 126) →
    let x := s.notices.ports.get q
    (x.messages.length < 4 → exec (.postMessage p target text) s = .next
      (({ s with notices := { s.notices with ports := s.notices.ports.set q { x with
          pulses := x.pulses ||| 0x4000#16
          messages := x.messages ++ [{ sender := p, text := text }] } } } : State).putReply p 59 .ok
        (u8 (x.messages.length + 1)))) ∧
    (4 ≤ x.messages.length → exec (.postMessage p target text) s = .next (s.putReply p 59 .full []))) ∧
  (∀ (s : State) (p : Port) (m : Message) (rest : List Message), s.powered = true →
    (s.notices.ports.get p).messages = m :: rest →
    exec (.takeMessage p) s = .next (({ s with notices := { s.notices with
      ports := s.notices.ports.set p { (s.notices.ports.get p) with messages := rest } } } : State).putReply p 60 .ok
        (u8 (portCode m.sender) ++ (u8 m.text.length ++ m.text) ++ u8 rest.length))) ∧
  (∀ (s : State) (source ports : Byte), s.powered = true →
    (source.toNat < 1 ∨ source.toNat = 15 ∨ 21 < source.toNat ∨ 8 ≤ ports.toNat) →
    exec (.setRoute .fleet source ports) s = .next (s.putReply .fleet 58 .range [])) ∧
  (∀ (s : State) (p : Port) (target : Byte) (text : List Byte), s.powered = true →
    (2 < target.toNat ∨ target.toNat = portCode p ∨ text.length < 1 ∨ 32 < text.length ∨
      ∃ c ∈ text, c.toNat < 32 ∨ 126 < c.toNat) →
    exec (.postMessage p target text) s = .next (s.putReply p 59 .range [])) ∧
  (∀ (s : State) (p : Port), s.powered = true → (s.notices.ports.get p).messages = [] →
    exec (.takeMessage p) s = .next (s.putReply p 60 .unknown [])) ∧
  (let all : PortSet := ⟨true, true, true⟩
   let none : PortSet := ⟨false, false, false⟩
   let console : PortSet := ⟨true, false, false⟩
   let partition : PortSet := ⟨false, true, false⟩
   let fleet : PortSet := ⟨false, false, true⟩
   let withPartition : PortSet := ⟨true, true, false⟩
   let withFleet : PortSet := ⟨true, false, true⟩
   let row := fun (src : NoticeSource) (n : Nat) (route minimum : PortSet) => src.number = n ∧
     ∃ i, routeIndex n = some i ∧ defaultRoutes[i] = route ∧ mandatoryMinimums[i] = minimum ∧
       ∀ x : Notices, x.route src = x.routes[i]
   row .hireStarted 1 all none ∧ row .partyStopped 2 withPartition none ∧ row .paymentOpened 3 console none ∧
   row .paymentResult 4 console console ∧ row .paymentExpired 5 withPartition partition ∧
   row .orphanApproval 6 withFleet fleet ∧ row .shiftClosed 7 all fleet ∧ row .zoneChanged 8 console none ∧
   row .zoneLost 9 withFleet none ∧ row .sensorOverrun 10 withFleet none ∧ row .tariffActive 11 withFleet none ∧
   row .calibrationPending 12 console none ∧ row .rearCall 13 console console ∧ row .talkFloor 14 console none ∧
   row .powerRecovered 16 all all ∧ row .journalNearFull 17 withFleet none ∧ row .journalFull 18 withFleet fleet ∧
   row .lampFault 19 console none ∧ row .audioRateFault 20 withPartition none ∧ row .clockInvalid 21 withFleet none ∧
   NoticeSource.number .message = 15 ∧ routeIndex 15 = Option.none)

/-- R195 to R198: a selection is a reply read or a request write by its first byte, and a request write is a partial
frame, a whole frame or an over-long one by its length; a whole frame of an unknown kind or of a wrong parameter
length is answered FORMAT. A partial frame changes no state but the receive buffer, a malformed frame is answered
FORMAT with its kind echoed, and a reply read gives the reply's bytes, then zeros, and empties the buffer at its last
byte. A request write gives 0 on the data output, which a partial frame, a FORMAT reply and every other reply leave
there (log 21). -/
def Obligations.SelectionsAreTaken : Prop :=
  (∀ (s : State) (p : Port) (received : List Byte), s.powered = true →
    exec (.frameDiscarded p received) s =
      .next { s with ports := s.ports.set p { (s.ports.get p) with receive := [], dataOut := .zeros } }) ∧
  (∀ (s : State) (p : Port) (received : List Byte), s.powered = true → answeredFormat p received = true →
    exec (.formatReply p received) s = .next (s.putReply p (received.headD 0).toNat .format [])) ∧
  (∀ (s : State) (p : Port) (n : Nat), s.powered = true →
    let b := s.ports.get p
    let put := fun c : PortBuffers => { s with ports := s.ports.set p c }
    (b.reply = none → exec (.replyRead p n) s = .next (put { b with
      dataOut := .bytes (([12#8, 0#8, 0#8, 0#8].take n) ++ List.replicate (n - 4) 0#8) })) ∧
    (∀ r, b.reply = some r →
      let rest := r.frame.drop r.position
      (n < rest.length → exec (.replyRead p n) s = .next (put { b with
        reply := some { r with position := 0 }, dataOut := .bytes (rest.take n) })) ∧
      (rest.length ≤ n → exec (.replyRead p n) s = .next (put { b with
        reply := none, dataOut := .bytes (rest ++ List.replicate (n - rest.length) 0#8) })))) ∧
  (∀ p : Port,
    let lengths : List Nat := [0, 2, 2, 0, 0, 2, 0, 25, 2, 3, 4, 1, 3, 2, 0, 1, 1, 1, 6, 2, 1, 0, 1, 1, 1, 1, 10, 1, 1, 15,
      5, 0, 4, 4, 0, 4, 0, 0, 2, 4, 2, 2, 0, 2, 4, 0, 0, 5, 1, 2, 1, 2, 0, 1, 4, 4, 0, 2, 0, 0]
    decodeSelection p [] = none ∧
    (∀ rest, decodeSelection p (0#8 :: rest) = some (.replyRead p rest.length)) ∧
    (∀ kind, kind ≠ 0#8 → decodeSelection p [kind] = some (.frameDiscarded p [kind])) ∧
    (∀ (kind len : Byte) (params : List Byte), kind ≠ 0#8 →
      let frame := kind :: len :: params
      let formatted := answeredFormat p frame = true ∧ decodeSelection p frame = some (.formatReply p frame)
      (60 < len.toNat → formatted) ∧
      (len.toNat ≤ 60 → params.length < len.toNat → decodeSelection p frame = some (.frameDiscarded p frame)) ∧
      (len.toNat < params.length → formatted) ∧
      (params.length = len.toNat → 60 < kind.toNat → formatted) ∧
      (params.length = len.toNat → len.toNat ≤ 60 → 1 ≤ kind.toNat → kind.toNat ≤ 60 →
        (kind.toNat ≠ 59 → len.toNat ≠ lengths.getD (kind.toNat - 1) 0 → formatted) ∧
        (kind.toNat = 59 → len.toNat = 0 → formatted) ∧
        (kind.toNat ≠ 59 ∧ len.toNat = lengths.getD (kind.toNat - 1) 0 ∨ kind.toNat = 59 ∧ 1 ≤ len.toNat →
          ∃ c k, decodeSelection p frame = some c ∧ k.code = kind.toNat ∧ c.request? = some (p, k, params))))) ∧
  (∀ (s : State) (p : Port) (k : Nat) (st : Status) (res : List Byte),
    ((s.putReply p k st res).ports.get p).dataOut = .zeros)

/-! ## Reading (R16, R28, R39, R73, R74, R107, R118, R137, R145, R158, R181, R190) -/

/-- READ_MOTION, TARIFF_STATUS, LIST_PARTIES, READ_PAYMENT, JOURNAL_STATUS, READ_SIGN, READ_INTERCOM and READ_ROUTES
are answered OK at any port with the items of their rule, and change nothing but the port's buffers. R204: the presence
field; R202 and R201: the codes of the values carried. The 0 of a stopped timer or an exhausted number (log 12), the
clock item (log 13), a presence bit for each field of a row (log 14), and in READ_INTERCOM the presence bits of an idle
speaker and the order of the talk keys (log 33) are the model's readings. -/
def Obligations.StateIsReported : Prop :=
  ∀ (s : State) (p : Port), s.powered = true →
    (let m := s.meas
     exec (.readMotion p) s = .next (s.putReply p 1 .ok (
      presence [m.run.course.isSome, m.run.count.isSome, m.run.computed.isSome, m.run.requested.isSome] ++
      u32 m.closure ++ u16 m.raw ++ u16 m.last.charged ++ u16 m.last.excess ++ u16 m.last.windowSpeed ++
      u16 m.last.smoothed ++ u8 (if m.cal.interlock ≠ 0 ∧ m.cal.interlock < m.last.smoothed then 1 else 0) ++
      u16 m.cal.k ++ u16 m.cal.ceiling ++ u32 m.cal.count ++ u16 m.cal.interlock ++
      u8 (if m.sealState = .closed then 1 else 0) ++ u8 (runCode m.run) ++ u16 (m.run.course.getD 0) ++
      u32 (m.run.count.getD 0) ++ u64 (m.run.computed.getD 0) ++ u16 (m.run.requested.getD 0)))) ∧
    (let x := s.store
     exec (.tariffStatus p) s = .next (s.putReply p 15 .ok (
      presence [x.stage.version.isSome, x.zone.lastCode.isSome, x.matchingRule.isSome, x.zone.watch.isSome] ++
      u16 x.activeVersion.toNat ++ u8 (stageCode x.stage) ++ u16 ((x.stage.version.map (·.toNat)).getD 0) ++
      u32 x.clock ++ u8 (if x.clockInvalid then 1 else 0) ++ u16 (x.clock / 60 % 1440) ++ u8 (periodCode x.period) ++
      u8 (if x.holiday then 1 else 0) ++ u8 (if x.zone.known then 1 else 0) ++ u8 x.zone.uncertain ++
      u16 ((x.zone.lastCode.map (·.toNat)).getD 0) ++ u8 ((x.matchingRule.map Prod.fst).getD 0) ++
      u16 (x.zone.watch.getD 0) ++ u8 x.zone.threshold ++ u8 x.zone.limit))) ∧
    (exec (.listParties p) s = .next (s.putReply p 22 .ok (
      presence (s.slotList.flatMap (fun x => [x.isSome, x.isSome, x.isSome])) ++
      s.slotList.flatMap (fun x => match x with
        | none => u8 0 ++ u32 0 ++ u32 0 ++ u32 0
        | some y => u8 (partyStateCode y.state) ++ u32 y.hire ++ u32 y.due ++ u32 y.remaining) ++
      u8 s.table.seatLimit ++ u8 s.nonVacant ++ u32 (s.table.nextHire.getD 0) ++
      u8 (if s.table.offDuty then 1 else 0) ++ u8 (if s.table.onCall then 1 else 0)))) ∧
    (exec (.readPayment p) s = .next (s.putReply p 32 .ok (
      presence (List.replicate 7 s.pay.session.isSome) ++ u8 (if s.pay.session.isSome then 1 else 0) ++
      (match s.pay.session with
       | some x => u8 x.slot.val ++ u32 x.hire ++ u16 x.payment ++ u32 x.requested ++ u32 x.allowance ++
           u8 (if x.pinEntry then 1 else 0) ++ u32 x.timeLeft
       | none => List.replicate 20 0) ++
      u16 (s.pay.guardTimer.getD 0) ++ u16 s.pay.counter ++ (u8 s.pay.recent.length ++ s.pay.recent.flatMap (fun x =>
        u16 x.payment ++ u8 x.slot.val ++ u32 x.hire ++ u8 (if x.cause = .expired then 1 else 0))) ++
      u32 s.allowance ++ u16 s.shift.holdLimit ++ u16 s.shift.tipCap ++ u32 s.shift.offlineCap ++ u8 s.pay.guardTime))) ∧
    (let j := s.journal
     let flying := if j.inFlight then j.places.head? else none
     let reserve := s.slotList.countP (fun x => match x with
       | none => false
       | some y => !(decide (y.state = .closing) && (j.places ++ j.waiting).any (isTripOf y.hire)))
     exec (.journalStatus p) s = .next (s.putReply p 35 .ok (
      presence [!j.stored.isEmpty, !j.stored.isEmpty, flying.isSome] ++ u32 ((j.stored.head?.map (·.seq)).getD 0) ++
      u32 ((j.stored.getLast?.map (·.seq)).getD 0) ++ u16 j.stored.length ++ u8 (j.places.length + j.waiting.length) ++
      u8 j.waiting.length ++ u16 j.free ++ u64 j.nextSeq ++ u8 ((flying.map entryCode).getD 0) ++
      u8 (reserve + (if s.shift.state = .opened then 1 else 0))))) ∧
    (let g := s.sign
     let channel := fun (i : Fin 4) => u8 (channelModeCode (channelMode g.state i)) ++
       u8 (overrideCode g.lamps[i].override) ++ u8 (if g.channelLit i g.lamps[i] then 1 else 0) ++ u8 g.lamps[i].dark ++
       u8 (if g.lamps[i].latch then 1 else 0)
     exec (.readSign p) s = .next (s.putReply p 47 .ok (u8 (signCode g.state) ++ u16 g.phase ++
      (channel 0 ++ channel 1 ++ channel 2 ++ channel 3) ++ u16 (g.test.getD 0) ++ u8 g.dayLevel ++ u8 g.nightLevel ++
      u8 (periodCode g.period) ++ u16 ((g.level * 256 + 50) / 100)))) ∧
    (let c := s.intercom
     let flag := fun b : Bool => u8 (if b then 1 else 0)
     let left := fun g : Gate => match g with
       | .releasing n => some n
       | _ => none
     let codec := fun x : Codec => flag x.fault ++ u8 x.badRun ++ u8 x.goodRun ++ u16 x.lastFrames
     let path := fun (l : AudioLine) (f : Factors) => u16 l.gain ++ u16 l.release ++ u8 (gateCode l.gate) ++ u8 f.code
     let speaker := fun x : Speaker => u8 ((x.playing.map (fun y => toneCode y.tone)).getD 0) ++
       u16 ((x.playing.map (·.given)).getD 0) ++ (u8 x.waiting.length ++ x.waiting.flatMap (fun t => u8 (toneCode t))) ++
       u16 x.drops
     let a := c.paths.frontToRear
     let b := c.paths.rearToFront
     let front := c.speakers.front
     let rear := c.speakers.rear
     exec (.readIntercom p) s = .next (s.putReply p 53 .ok (
      presence [(left a.gate).isSome, (left b.gate).isSome, c.floorTimer.isSome, front.playing.isSome,
        front.playing.isSome, rear.playing.isSome, rear.playing.isSome] ++
      u8 (modeCode c.mode) ++ flag c.override ++ flag c.driverMute ++ flag c.privacy ++ codec c.codecs.front ++
      codec c.codecs.rear ++ path a (s.factors .frontToRear) ++ path b (s.factors .rearToFront) ++
      u16 ((left a.gate).getD 0) ++ u16 ((left b.gate).getD 0) ++ flag c.keys.driver ++ flag c.keys.rear ++
      u8 (floorCode c.floor) ++ u8 (floorCode c.claimant) ++ u16 (c.floorTimer.getD 0) ++ speaker front ++
      speaker rear))) ∧
    (exec (.readRoutes p) s = .next (s.putReply p 57 .ok
      ((List.finRange 20).flatMap (fun i => u8 (portSetCode s.notices.routes[i]) ++
        u8 (portSetCode mandatoryMinimums[i]))))) ∧
    (∀ items : List Bool, (presence items).length = (items.length + 7) / 8 ∧
      ∀ k, ((presence items).getD (k / 8) 0#8).getLsbD (k % 8) = items.getD k false) ∧
    (∀ c n k ceiling, [runCode .idle, runCode (.ready c), runCode (.counting c n), runCode (.done c n k),
      runCode (.failed c n k), runCode (.adopting c n k ceiling)] = [0, 1, 2, 3, 4, 5]) ∧
    (∀ v, [stageCode .idle, stageCode .loading, stageCode (.armed v), stageCode (.activating v)] = [0, 1, 2, 3]) ∧
    [Period.day, .night, .holiday].map periodCode = [0, 1, 2] ∧
    [SignState.dark, .offDuty, .free, .onCall, .shareOpen, .hired, .arrived].map signCode = [0, 1, 2, 3, 4, 5, 6] ∧
    [ChannelMode.dark, .steady, .blink, .strobe].map channelModeCode = [0, 1, 2, 3] ∧
    [Override.normal, .on, .off].map overrideCode = [0, 1, 2] ∧
    (∀ n, [gateCode .muted, gateCode (.releasing n), gateCode .passing] = [0, 1, 2]) ∧
    [IntercomMode.fullDuplex, .halfDuplex, .closed].map modeCode = [0, 1, 2] ∧
    [none, some TalkSide.driver, some .rear].map floorCode = [0, 1, 2] ∧
    [Tone.call, .start, .approved, .declined, .expired].map toneCode = [0, 1, 2, 3, 4] ∧
    [PartyState.running, .stopped, .paying, .closing].map partyStateCode = [1, 2, 3, 4] ∧
    [Port.console, .partition, .fleet].map portCode = [0, 1, 2] ∧
    (∀ b : EntryBody, entryCode b = match b with
      | .trip _ => 1
      | .shift _ => 2
      | .orphan _ => 3
      | .calibration _ _ _ _ _ => 4
      | .tariff _ _ => 5) ∧
    (let bit := fun (b : Bool) (w : Nat) => if b then w else 0
     (∀ f : Factors, f.code = bit f.rate 1 + bit f.closed 2 + bit f.driverMute 4 + bit f.privacy 8 + bit f.pin 16 +
       bit f.pinGuard 32 + bit f.floor 64 + bit f.tone 128) ∧
     (∀ x : PortSet, portSetCode x = bit x.console 1 + bit x.partition 2 + bit x.fleet 4)) ∧
    (∀ (hire : Nat) (b : EntryBody), isTripOf hire b = true ↔ ∃ e, b = .trip e ∧ e.hire = hire)

/-- TARIFF_READ, READ_PARTY, SHIFT_PREVIEW and READ_TOTALIZERS (R145) give the item, the record, the report or the
totalizers and change nothing but the port's buffers; a staged item in IDLE and a preview before any close are refused
with STATE. The bytes of the party record (R201) for a distance that its four bytes hold (log 16), and of the items of
a tariff set (R203). The K of a closed shift's preview (log 17), its mark (log 18), the clock items (log 13) and the
presence bytes (log 14) are the model's readings. -/
def Obligations.RecordsAreReported : Prop :=
  (∀ (s : State) (p : Port) (kind n : Byte) (item : TariffSet → List Byte), s.powered = true →
    (∃ i : Fin 8, n.toNat = i.val + 1 ∧
      (kind = 0#8 ∧ item = (fun t => itemBytes tariffFields t.tariffs[i]) ∨
       kind = 1#8 ∧ item = (fun t => itemBytes extraKindFields t.extraKinds[i]))) ∨
    (∃ i : Fin 16, n.toNat = i.val + 1 ∧ kind = 2#8 ∧ item = (fun t => itemBytes zoneRuleFields t.zoneRules[i])) ∨
    (kind = 3#8 ∧ item = (fun t => u8 1 ++ defaultsFields t)) →
    exec (.tariffRead p 0#8 kind n) s =
      .next (s.putReply p 10 .ok (item s.store.active ++ u8 1 ++ u16 s.store.activeVersion.toNat)) ∧
    (s.store.stage = .idle → exec (.tariffRead p 1#8 kind n) s = .next (s.putReply p 10 .state [])) ∧
    (s.store.stage = .loading → exec (.tariffRead p 1#8 kind n) s =
      .next (s.putReply p 10 .ok (item s.store.staged ++ u8 0 ++ u16 0))) ∧
    (∀ v, (s.store.stage = .armed v ∨ s.store.stage = .activating v) → exec (.tariffRead p 1#8 kind n) s =
      .next (s.putReply p 10 .ok (item s.store.staged ++ u8 1 ++ u16 v.toNat)))) ∧
  (∀ (s : State) (p : Port) (slot : Byte) (i : Fin 4), s.powered = true → slot.toNat = i.val →
    (s.party i = none → exec (.readParty p slot) s = .next (s.putReply p 21 .ok (u8 i.val ++ u8 0))) ∧
    (∀ x, s.party i = some x →
      exec (.readParty p slot) s = .next (s.putReply p 21 .ok (partyBytes s.meas.cal.k i.val (some x))))) ∧
  (∀ (s : State) (p : Port), s.powered = true → p ≠ .partition →
    let report := fun (n k rate : Nat) (close : Option Stamp) => ({
      number := n, driver := s.shift.driver.getD 0, openTime := s.shift.openTime.getD { clock := 0, invalid := false }
      closeTime := close, counters := s.shift.counters, limitReached := s.shift.limitReached, k := k, rate := rate } :
        ShiftReport)
    let now : Stamp := { clock := s.store.clock, invalid := s.store.clockInvalid }
    let n := s.shift.number.getD 0
    let k := s.shift.closingK.getD s.meas.cal.k
    let rate := s.shift.closingRate.getD 0
    (s.shift.state = .opened → exec (.shiftPreview p) s = .next (s.putReply p 38 .ok
      (u8 1 ++ u8 1 ++ reportItems (report n s.meas.cal.k s.shift.commission (some now))))) ∧
    (s.shift.state = .closing → exec (.shiftPreview p) s = .next (s.putReply p 38 .ok
      (u8 0 ++ u8 2 ++ reportItems (report n k rate none)))) ∧
    (∀ x, s.shift.state = .closed → 1 < n → s.shift.closeTime = some x → exec (.shiftPreview p) s =
      .next (s.putReply p 38 .ok (u8 1 ++ u8 0 ++ reportItems (report (n - 1) k rate (some x))))) ∧
    (∀ x, s.shift.state = .closed → s.shift.number = none → s.shift.closeTime = some x → exec (.shiftPreview p) s =
      .next (s.putReply p 38 .ok (u8 1 ++ u8 0 ++ reportItems (report 4294967295 k rate (some x))))) ∧
    (s.shift.state = .closed → s.shift.number = some 1 → exec (.shiftPreview p) s = .next (s.putReply p 38 .state []))) ∧
  (∀ (s : State) (p : Port), s.powered = true →
    exec (.readTotalizers p) s = .next (s.putReply p 43 .ok (
      u32 s.shift.totals.distance ++ u32 s.shift.totals.hiredDistance ++ u16 s.shift.totals.totalRemainder ++
      u16 s.shift.totals.hiredRemainder ++ u32 s.shift.totals.trips ++ u32 s.shift.totals.fares ++
      u32 s.meas.cal.count ++ u16 s.meas.cal.k))) ∧
  (let bit := fun (b : Bool) (w : Nat) => if b then w else 0
   ∀ (k slot : Nat) (x : Party), x.pulses * 1000 / k ≤ max32 →
    let invalid := (x.stopTime.map (·.invalid)).getD false
    partyBytes k slot none = u8 slot ++ u8 0 ∧
    partyBytes k slot (some x) = u8 slot ++ u8 (partyStateCode x.state) ++
      u8 (bit x.stopTime.isSome 1 + bit x.zoneAtStart.isSome 2 + bit x.pin.isSome 4 + bit x.payment.isSome 8) ++
      u8 (bit x.saturated 1 + bit x.extraDropped 2 + bit x.powerInterrupted 4 + bit x.lateApproval 8 +
        bit x.excessCharged 16 + bit x.joining 32 + bit x.counted 64) ++
      u32 x.hire ++ u32 x.startTime.clock ++ u32 ((x.stopTime.map (·.clock)).getD 0) ++
      u8 (bit x.startTime.invalid 1 + bit invalid 2) ++ u16 ((x.zoneAtStart.map (·.toNat)).getD 0) ++
      u8 (x.current.val + 1) ++ u8 (x.first.val + 1) ++ u8 ((x.pin.map (·.val + 1)).getD 0) ++ u8 x.mostConcurrent ++
      u16 x.switches ++
      (u32 x.progress ++ u16 (x.progress / 4294967296) ++ u8 (x.progress / 281474976710656)) ++ u8 x.prepaid ++
      u32 x.steps ++ u32 x.fare ++ u32 x.pulses ++ u32 x.windows ++ u32 x.tip ++ u16 (x.payment.getD 0) ++
      u16 x.chargedRules.toNat ++ u32 (x.extras.map (·.amount)).sum ++ u32 x.due ++
      u32 (x.tenders.map Tender.applied).sum ++ u32 x.remaining ++ u32 (x.pulses * 1000 / k) ++ u32 (x.windows / 10) ++
      u8 x.extras.length ++ u8 x.tenders.length ++ x.extras.flatMap extraBytes ++ x.tenders.flatMap tenderBytes ∧
    x.due = min 9999999 (x.fare + (x.extras.map (·.amount)).sum + x.tip) ∧
    x.remaining = x.due - (x.tenders.map Tender.applied).sum) ∧
  (partyStateCode .running = 1 ∧ partyStateCode .stopped = 2 ∧ partyStateCode .paying = 3 ∧ partyStateCode .closing = 4) ∧
  (∀ x : Extra, extraBytes x =
    u8 (x.kind.val + 1) ++ u8 (match x.cls with | .surcharge => 0 | .passThrough => 1) ++ u32 x.amount) ∧
  (∀ (a pay ref excess : Nat) (above : Bool),
    tenderBytes (.cash a) = u8 0 ++ u8 0 ++ u16 0 ++ u32 a ++ u32 0 ++ u32 0 ∧
    tenderBytes (.cardOnline a pay ref excess) = u8 1 ++ u8 0 ++ u16 pay ++ u32 a ++ u32 ref ++ u32 excess ∧
    tenderBytes (.cardOffline a pay ref excess above) =
      u8 2 ++ u8 (if above then 1 else 0) ++ u16 pay ++ u32 a ++ u32 ref ++ u32 excess ∧
    (Tender.cash a).applied = a ∧ (Tender.cardOnline a pay ref excess).applied = a ∧
    (Tender.cardOffline a pay ref excess above).applied = a) ∧
  (let number := fun n : Option (Fin 8) => u8 ((n.map (·.val + 1)).getD 0)
   (∀ x : Tariff, tariffFields x = u32 x.flagFall ++ u8 x.prepaid ++ u32 x.stepAmount ++ u16 x.distanceStep ++
     u16 x.timeStep ++ u8 (match x.mode with | .single => 0 | .double => 1) ++ u16 x.f1 ++ u16 x.f2 ++ u16 x.f3 ++
     u16 x.f4) ∧
   (∀ x : ExtraKind, extraKindFields x = u8 (match x.cls with | .surcharge => 0 | .passThrough => 1) ++ u32 x.amount ++
     u8 ((if x.permitted.console then 1 else 0) + (if x.permitted.partition then 2 else 0) +
       (if x.permitted.fleet then 4 else 0)) ++ List.replicate 16 0#8) ∧
   (∀ x : ZoneRule, zoneRuleFields x = u16 x.value.toNat ++ u16 x.mask.toNat ++ number x.day ++ number x.night ++
     number x.holiday ++ number x.entryExtra ++ List.replicate 14 0#8) ∧
   (∀ x : TariffSet, defaultsFields x = u8 (x.defaultDay.val + 1) ++ u8 (x.defaultNight.val + 1) ++
     u8 (x.defaultHoliday.val + 1) ++ u16 x.nightStart ++ u16 x.nightEnd ++ List.replicate 15 0#8) ∧
   (∀ x : Tariff, itemBytes tariffFields (some x) = u8 1 ++ tariffFields x) ∧
   itemBytes tariffFields none = u8 0 ++ List.replicate 22 0#8 ∧
   (∀ x : ExtraKind, itemBytes extraKindFields (some x) = u8 1 ++ extraKindFields x) ∧
   itemBytes extraKindFields none = u8 0 ++ List.replicate 22 0#8 ∧
   (∀ x : ZoneRule, itemBytes zoneRuleFields (some x) = u8 1 ++ zoneRuleFields x) ∧
   itemBytes zoneRuleFields none = u8 0 ++ List.replicate 22 0#8)

/-! ## Power (chapter 6) -/

/-- R120: a loss of power between two steps keeps every persistent value, and the clock with its place in the second
(R29). That the volatile values of a part without power are already those of a restart (no session, no queue, no pulse
notice, no message, no reply) is the model's choice (log 8). -/
def Obligations.PowerLossKeepsTheRecords : Prop :=
  ∀ s : State, s.powered = true →
    ∃ t, exec (.powerLoss .betweenSteps) s = .next t ∧ t.powered = false ∧
      t.table = s.table ∧ t.shift = s.shift ∧ t.meas.cal = s.meas.cal ∧ t.secondMs = s.secondMs ∧
      t.store = { s.store with zone := { s.store.zone with known := false, lastCode := none, uncertain := 0, watch := none } } ∧
      t.journal = { stored := s.journal.stored, nextSeq := s.journal.nextSeq, places := [], waiting := [], inFlight := false } ∧
      t.pay = { session := none, recent := [], counter := 1, guardTimer := none, guardTime := s.pay.guardTime } ∧
      t.sign.dayLevel = s.sign.dayLevel ∧ t.sign.nightLevel = s.sign.nightLevel ∧ t.intercom.mode = s.intercom.mode ∧
      (∀ q, (t.intercom.paths.get q).gain = (s.intercom.paths.get q).gain ∧
        (t.intercom.paths.get q).release = (s.intercom.paths.get q).release) ∧
      t.intercom.driverMute = s.intercom.driverMute ∧ t.intercom.privacy = s.intercom.privacy ∧
      t.intercom.override = s.intercom.override ∧ t.notices.routes = s.notices.routes ∧
      (∀ q, (t.ports.get q).reply = none ∧ (t.notices.ports.get q).messages = [] ∧ (t.notices.ports.get q).pulses = 0)

/-- RESTART (R122 to R126, R17, R27, R29, R31, R108, R158, R182, R194, R199): the slots and the shift judged, the volatile
values set and every setting kept; the clock goes on through the time without power where the backup supply held, its
seconds running on (R29), and the holiday flag clears where a new day began (R31); an OPEN shift counts the
interruption, SHIFT_CLOSED is raised where the restore closes the shift, and but for POWER_RECOVERED no other pulse
notice is left; the sign is derived, with the period and the level then in use. R169: both keys are released. The
model's choices and readings here: what RESTART carries of the inputs, and of the backup supply with the millisecond of
its second (logs 9, 24 and 27); the 30 ms of a key held through the restart, and the 50 ms of the seal input, counted
from its end (log 24); no held source sample (log 34); output pins at zeros (log 21); the holiday flag over the clock's
overflow and a failed supply (log 19); the place of a lit lamp in its modulation period (log 25). -/
def Obligations.RestartRestoresThePart : Prop :=
  (∀ (s : State) (levels : InputLevels) (backup : Backup),
    ∃ t, exec (.restart levels backup) s = .next t ∧ t.powered = true ∧
      (∀ i, s.party i = none → t.party i = none) ∧
      (∀ i x, s.party i = some x → x.state = .running → t.party i = some { x with
        state := .stopped, stopTime := some { clock := t.store.clock, invalid := t.store.clockInvalid }
        powerInterrupted := true, joining := false }) ∧
      (∀ i x, s.party i = some x → x.state = .paying →
        t.party i = some { x with state := .stopped, payment := none, joining := false }) ∧
      (∀ i x, s.party i = some x → x.state = .stopped → t.party i = some { x with joining := false }) ∧
      (∀ i x, s.party i = some x → x.state = .closing →
        (s.journal.newestTrip.map (·.hire) = some x.hire → t.party i = none) ∧
        (s.journal.newestTrip.map (·.hire) ≠ some x.hire → t.party i = some x ∧
          .trip (tripEntry s.meas.cal.k i x) ∈ t.journal.places)) ∧
      t.table = { s.table with slots := t.table.slots } ∧
      t.journal.stored = s.journal.stored ∧ t.journal.nextSeq = s.journal.nextSeq ∧ t.journal.inFlight = false ∧
      (let closes := s.shift.state = .closing ∧
         ∃ r time, s.journal.newestShift = some (r, time) ∧ s.shift.number = some r.number
       let pulses := fun (q : Port) (closed : BitVec 16) => (t.notices.ports.get q).pulses =
         (if (s.notices.route .powerRecovered).has q then 0x8000#16 else 0#16) |||
         (if (s.notices.route .shiftClosed).has q then closed else 0#16)
       t.shift = { s.shift with
         state := t.shift.state, number := t.shift.number, closeTime := t.shift.closeTime, counters := t.shift.counters
         limitReached := t.shift.limitReached, totals := t.shift.totals } ∧
       (s.shift.state ≠ .closing → t.shift.state = s.shift.state ∧ t.shift.number = s.shift.number ∧
         t.shift.closeTime = s.shift.closeTime) ∧
       (∀ r time, s.shift.state = .closing → s.journal.newestShift = some (r, time) → s.shift.number = some r.number →
         t.shift.state = .closed ∧ t.shift.closeTime = some time ∧
         t.shift.number = (if r.number < max32 then some (r.number + 1) else none)) ∧
       (s.shift.state = .closing → ¬closes →
         t.shift.state = .closing ∧ t.shift.number = s.shift.number ∧ t.shift.closeTime = s.shift.closeTime ∧
         (t.journal.places ++ t.journal.waiting).countP EntryBody.isShift = 1 ∧
         ∀ n k rate driver time, s.shift.number = some n → s.shift.closingK = some k → s.shift.closingRate = some rate →
           s.shift.driver = some driver → s.shift.openTime = some time →
           .shift { number := n, driver := driver, openTime := time, closeTime := none, counters := s.shift.counters
                    limitReached := s.shift.limitReached, k := k, rate := rate } ∈
             t.journal.places ++ t.journal.waiting) ∧
       (closes → ∀ q, pulses q 0x40#16) ∧ (¬closes → ∀ q, pulses q 0#16)) ∧
      (s.shift.state ≠ .opened → t.shift.counters = s.shift.counters ∧ t.shift.limitReached = s.shift.limitReached) ∧
      (s.shift.state = .opened →
        t.shift.counters.powerInterruptions = min max32 (s.shift.counters.powerInterruptions + 1)) ∧
      ((∀ i x, s.party i = some x → x.state = .closing → x.counted = false →
          s.journal.newestTrip.map (·.hire) ≠ some x.hire) →
        t.shift.totals = s.shift.totals ∧ t.shift.limitReached = s.shift.limitReached ∧
        (s.shift.state = .opened → t.shift.counters = { s.shift.counters with
          powerInterruptions := min max32 (s.shift.counters.powerInterruptions + 1) })) ∧
      t.meas = { raw := 0, closure := 0, last := { charged := 0, excess := 0, windowSpeed := 0, smoothed := 0 }
                 cal := s.meas.cal, sealState := levels.sealInput, sealInput := levels.sealInput, run := .idle
                 sealPin := { s.meas.sealPin with level := levels.sealInput, stable := 0 } } ∧
      t.store = { s.store with
        stage := match s.store.stage with
          | .activating v => .armed v
          | x => x
        zone := { s.store.zone with known := false, lastCode := none, uncertain := 0, watch := none }
        clock := t.store.clock, clockInvalid := t.store.clockInvalid, holiday := t.store.holiday } ∧
      (∀ n, backup = .failed n → t.store.clock = 0 ∧ t.store.clockInvalid = true ∧ t.store.holiday = s.store.holiday ∧
        t.secondMs = n % 1000) ∧
      (∀ n, backup = .held n →
        let seconds := (s.secondMs + n) / 1000
        t.secondMs = (s.secondMs + n) % 1000 ∧ t.store.clock = (s.store.clock + seconds) % 4294967296 ∧
        (s.store.clockInvalid = true → t.store.clockInvalid = true ∧ t.store.holiday = s.store.holiday) ∧
        (s.store.clockInvalid = false →
          t.store.clockInvalid = decide (max32 < s.store.clock + seconds) ∧
          t.store.holiday = (s.store.holiday &&
            decide (min max32 (s.store.clock + seconds) / 86400 = s.store.clock / 86400)))) ∧
      t.pay = { session := none, recent := [], counter := 1, guardTimer := none, guardTime := s.pay.guardTime } ∧
      t.sign = { s.sign with
        state := t.deriveSign, phase := 0, test := none, lamps := t.sign.lamps, period := t.store.period
        level := if t.store.period = .night then s.sign.nightLevel else s.sign.dayLevel } ∧
      (∀ i : Fin 4, t.sign.lamps[i] =
        { override := .normal, dark := 0, latch := false
          period := if t.sign.channelLit i t.sign.lamps[i] then
            some { slot := 0, width := (t.sign.level * 256 + 50) / 100 } else none }) ∧
      (let monitor : Codec := { frames := 0, lastFrames := 0, fault := true, badRun := 0, goodRun := 0 }
       let idle : Speaker := { playing := none, waiting := [], drops := 0, output := 0 }
       let muted := fun l : AudioLine => { l with gate := .muted, held := none }
       t.intercom = { s.intercom with
         codecs := ⟨monitor, monitor⟩, speakers := ⟨idle, idle⟩
         paths := ⟨muted s.intercom.paths.frontToRear, muted s.intercom.paths.rearToFront⟩
         keys := ⟨false, false⟩, floor := none, claimant := none, floorTimer := none
         keyPins := ⟨{ s.intercom.keyPins.driver with level := levels.driverKey, stable := 0 },
                     { s.intercom.keyPins.rear with level := levels.rearKey, stable := 0 }⟩ }) ∧
      t.notices.routes = s.notices.routes ∧
      (∀ q, (t.notices.ports.get q).messages = [] ∧ (t.notices.ports.get q).enabled = BitVec.allOnes 21) ∧
      (∀ q, t.ports.get q = { receive := [], reply := none, dataOut := .zeros }) ∧ t.windowMs = 0) ∧
  (∀ (j : RecordStore) (x : TripEntry), j.newestTrip = some x ↔ ∃ older e newer, j.stored = older ++ e :: newer ∧
    e.body = .trip x ∧ ∀ d ∈ newer, ∀ y, d.body ≠ .trip y) ∧
  (∀ (j : RecordStore) (r : ShiftReport) (time : Stamp), j.newestShift = some (r, time) ↔
    ∃ older e newer, j.stored = older ++ e :: newer ∧ e.body = .shift r ∧ e.time = time ∧
      ∀ d ∈ newer, ∀ y, d.body ≠ .shift y)

/-- R121, R123, R127 and R131: a TRIP append whose completion a loss of power cuts after its first or its second
update is counted once by the completion and the restart together, in an OPEN shift, and a cut before it leaves the
trip uncounted with its entry queued again. The cuts are the model's reading of R121 (log 8). Both premises about hire
numbers hold of every hire (R64). -/
def Obligations.TripIsCountedOnceAcrossPowerLoss : Prop :=
  ∀ (s : State) (i : Fin 4) (x : Party) (e : TripEntry) (rest : List EntryBody) (levels : InputLevels)
    (backup : Backup),
    s.powered = true → s.shift.state = .opened → s.journal.inFlight = true → s.journal.places = .trip e :: rest →
    e.slot = i → s.party i = some x → x.state = .closing → x.hire = e.hire → x.counted = false →
    (∀ j y, s.party j = some y → y.state = .closing → j ≠ i → y.hire ≠ e.hire) →
    (∀ d ∈ s.journal.stored, ∀ q, d.body = .trip q → ∀ j y, s.party j = some y → q.hire ≠ y.hire) →
    (∀ cut, cut ≠ .betweenSteps →
      ∃ a b c, exec .appendComplete s = .next a ∧ exec (.powerLoss cut) s = .next b ∧
        exec (.restart levels backup) b = .next c ∧ a.party i = none ∧ c.party i = none ∧
        c.journal.stored = a.journal.stored ∧ c.shift.totals = a.shift.totals ∧
        a.shift.counters.trips = min max32 (s.shift.counters.trips + 1) ∧
        c.shift.counters = { a.shift.counters with
          powerInterruptions := min max32 (a.shift.counters.powerInterruptions + 1) } ∧
        c.shift.limitReached = a.shift.limitReached) ∧
    (∃ b c, exec (.powerLoss .betweenSteps) s = .next b ∧ exec (.restart levels backup) b = .next c ∧
      c.party i = some x ∧ c.journal.stored = s.journal.stored ∧ c.shift.totals = s.shift.totals ∧
      c.shift.counters = { s.shift.counters with
        powerInterruptions := min max32 (s.shift.counters.powerInterruptions + 1) } ∧
      (c.journal.places ++ c.journal.waiting).countP (EntryBody.isTripAt i) = 1)

/-! ## What every step keeps -/

/-- Every step keeps the routes above their minimums, the queues within their places, the floor consistent, the lamps
latched at three, the levels legible, the seal above the calibration run, and every change of a debounced input taken
within its time (R9, R169). -/
def Obligations.UnitsKeepTheirBounds : Prop :=
  ∀ s t : State, s.RoutesHoldMinimums → s.QueuesFit → s.FloorIsConsistent → s.LampsLatchAtThree → s.LevelsAreLegal →
    s.SealStopsCalibration → s.InputsAreDebounced → step s = .next t →
      t.RoutesHoldMinimums ∧ t.QueuesFit ∧ t.FloorIsConsistent ∧ t.LampsLatchAtThree ∧ t.LevelsAreLegal ∧
        t.SealStopsCalibration ∧ t.InputsAreDebounced

/-- Every step keeps the sign at the state R146 derives, the lamps' modulation periods in step with their phases
(R149), and the gates in step with their mute factors (R147, R165). -/
def Obligations.SignAndGatesFollow : Prop :=
  ∀ s t : State, s.SignIsDerived → s.LampsFollowPhases → s.GatesFollowFactors → step s = .next t →
    t.SignIsDerived ∧ t.LampsFollowPhases ∧ t.GatesFollowFactors

/-- Every step keeps the open session's lock on its party (R85), and one queued TRIP entry, under its hire number, for
each CLOSING slot (R80). -/
def Obligations.SessionAndQueueCoverTheirSlots : Prop :=
  ∀ s t : State, s.SessionLocksItsParty → s.ClosingSlotsAreQueued → step s = .next t →
    t.SessionLocksItsParty ∧ t.ClosingSlotsAreQueued

/-- Every step keeps the hires within the seat limit, inside an OPEN shift, and the SHIFT entry, under the shift's
number, with its CLOSING shift (R63, R128, R134). -/
def Obligations.ShiftAndSeatsBoundHires : Prop :=
  ∀ s t : State, s.SeatsFit → s.ShiftCoversHires → step s = .next t → t.SeatsFit ∧ t.ShiftCoversHires

/-- Every step keeps the fares, tenders and extras of every party within their limits (R18, R52, R57, R84). -/
def Obligations.MoneyStaysWithinLimits : Prop :=
  ∀ s t : State, s.MoneyFits → step s = .next t → t.MoneyFits

/-- Every step keeps the stored entries consecutively numbered (R109), and the active set and a committed staged set passing
the commit's checks (R25, R26). -/
def Obligations.JournalAndSetsStaySound : Prop :=
  ∀ s t : State, s.SequenceIsGapless → s.CommittedSetsAreComplete → step s = .next t →
    t.SequenceIsGapless ∧ t.CommittedSetsAreComplete

/-- Every step keeps the journal's reserve (R115), a loss of power and the restart of a part without power among them:
the 256 places and the sequence numbers left suffice for every entry stored, queued or still to be queued for a hire
or a shift. A CLOSING slot or shift whose queued entry a loss of power has discarded counts as still to be queued,
unless its entry is the newest stored one, which the restore finds (R123, R125). -/
def Obligations.ReserveIsKept : Prop :=
  ∀ s t : State, s.SessionLocksItsParty → s.ClosingSlotsAreQueued → s.ShiftCoversHires → s.ReserveFits →
    step s = .next t → t.ReserveFits
end

