-- ==== Sys2Proof/Laws/Bytes.lean ====
section
/-! SUPPORT. Numbers and their bytes (R201): reading back what was written. -/

namespace Sys2Proof

@[simp] theorem leBytes_length (n v : Nat) : (leBytes n v).length = n := by
  induction n generalizing v with
  | zero => rfl
  | succ n ih => simp [leBytes, ih]

/-- The number carried by the bytes of a number, within the bytes' range. -/
theorem leNat_leBytes (n v : Nat) : leNat (leBytes n v) = v % 256 ^ n := by
  induction n generalizing v with
  | zero => simp [leBytes, leNat, Nat.mod_one]
  | succ n ih =>
    rw [leBytes, leNat, ih, BitVec.toNat_ofNat, (Nat.pow_succ' : 256 ^ (n + 1) = 256 * 256 ^ n)]
    exact (Nat.mod_mul (x := v) (a := 256) (b := 256 ^ n)).symm

/-- The two bytes of a 16-bit number. -/
theorem word16_bytes (a : BitVec 16) : word16 (BitVec.ofNat 8 a.toNat) (BitVec.ofNat 8 (a.toNat / 256)) = a := by
  have h : leNat [BitVec.ofNat 8 a.toNat, BitVec.ofNat 8 (a.toNat / 256)] = a.toNat := by
    have := leNat_leBytes 2 a.toNat
    simp only [leBytes] at this
    rw [this, Nat.mod_eq_of_lt (by have := a.isLt; omega)]
  rw [word16, h, BitVec.ofNat_toNat, BitVec.setWidth_eq]

/-- The four bytes of a 32-bit number. -/
theorem word32_bytes (a : BitVec 32) :
    word32 (BitVec.ofNat 8 a.toNat) (BitVec.ofNat 8 (a.toNat / 256)) (BitVec.ofNat 8 (a.toNat / 256 / 256))
      (BitVec.ofNat 8 (a.toNat / 256 / 256 / 256)) = a := by
  have h := leNat_leBytes 4 a.toNat
  simp only [leBytes] at h
  rw [word32, h, Nat.mod_eq_of_lt (by have := a.isLt; omega), BitVec.ofNat_toNat, BitVec.setWidth_eq]

/-- The 22 field bytes of a TARIFF_ITEM. -/
theorem fieldWord_bytes (f : BitVec 176) : fieldWord (leBytes 22 f.toNat) = f := by
  rw [fieldWord, leNat_leBytes, Nat.mod_eq_of_lt (by have := f.isLt; omega), BitVec.ofNat_toNat, BitVec.setWidth_eq]

end Sys2Proof
end

