-- ==== Sys2Proof/Laws/State.lean ====
section
/-! SUPPORT. What each state operation leaves as it is: one lemma for each field of the state and for each count that reads
only such fields, so that no proof unfolds a record update. -/

namespace Sys2Proof.Machine

/-! Replacing a reply changes the port's buffers alone. -/

@[simp] theorem State.putReply_meas (s : State) (p : Port) (k : Nat) (st : Status) (res : List Byte) : (s.putReply p k st res).meas = s.meas := rfl

@[simp] theorem State.putReply_store (s : State) (p : Port) (k : Nat) (st : Status) (res : List Byte) : (s.putReply p k st res).store = s.store := rfl

@[simp] theorem State.putReply_table (s : State) (p : Port) (k : Nat) (st : Status) (res : List Byte) : (s.putReply p k st res).table = s.table := rfl

@[simp] theorem State.putReply_pay (s : State) (p : Port) (k : Nat) (st : Status) (res : List Byte) : (s.putReply p k st res).pay = s.pay := rfl

@[simp] theorem State.putReply_journal (s : State) (p : Port) (k : Nat) (st : Status) (res : List Byte) : (s.putReply p k st res).journal = s.journal := rfl

@[simp] theorem State.putReply_shift (s : State) (p : Port) (k : Nat) (st : Status) (res : List Byte) : (s.putReply p k st res).shift = s.shift := rfl

@[simp] theorem State.putReply_sign (s : State) (p : Port) (k : Nat) (st : Status) (res : List Byte) : (s.putReply p k st res).sign = s.sign := rfl

@[simp] theorem State.putReply_intercom (s : State) (p : Port) (k : Nat) (st : Status) (res : List Byte) : (s.putReply p k st res).intercom = s.intercom := rfl

@[simp] theorem State.putReply_notices (s : State) (p : Port) (k : Nat) (st : Status) (res : List Byte) : (s.putReply p k st res).notices = s.notices := rfl

@[simp] theorem State.putReply_windowMs (s : State) (p : Port) (k : Nat) (st : Status) (res : List Byte) : (s.putReply p k st res).windowMs = s.windowMs := rfl

@[simp] theorem State.putReply_secondMs (s : State) (p : Port) (k : Nat) (st : Status) (res : List Byte) : (s.putReply p k st res).secondMs = s.secondMs := rfl

@[simp] theorem State.putReply_powered (s : State) (p : Port) (k : Nat) (st : Status) (res : List Byte) : (s.putReply p k st res).powered = s.powered := rfl

@[simp] theorem State.putReply_pending (s : State) (p : Port) (k : Nat) (st : Status) (res : List Byte) : (s.putReply p k st res).pending = s.pending := rfl

@[simp] theorem State.putReply_party (s : State) (p : Port) (k : Nat) (st : Status) (res : List Byte) (j : Fin 4) : (s.putReply p k st res).party j = s.party j :=
  rfl

@[simp] theorem State.putReply_slotList (s : State) (p : Port) (k : Nat) (st : Status) (res : List Byte) : (s.putReply p k st res).slotList = s.slotList :=
  rfl

@[simp] theorem State.putReply_nonVacant (s : State) (p : Port) (k : Nat) (st : Status) (res : List Byte) : (s.putReply p k st res).nonVacant = s.nonVacant :=
  rfl

@[simp] theorem State.putReply_runningCount (s : State) (p : Port) (k : Nat) (st : Status) (res : List Byte) : (s.putReply p k st res).runningCount = s.runningCount :=
  rfl

@[simp] theorem State.putReply_deriveSign (s : State) (p : Port) (k : Nat) (st : Status) (res : List Byte) : (s.putReply p k st res).deriveSign = s.deriveSign :=
  rfl

@[simp] theorem State.putReply_factors (s : State) (p : Port) (k : Nat) (st : Status) (res : List Byte) (q : AudioPath) : (s.putReply p k st res).factors q = s.factors q :=
  rfl

/-! Raising a pulse source changes the notices alone. -/

@[simp] theorem State.raise_meas (s : State) (src : NoticeSource) : (s.raise src).meas = s.meas := rfl

@[simp] theorem State.raise_store (s : State) (src : NoticeSource) : (s.raise src).store = s.store := rfl

@[simp] theorem State.raise_table (s : State) (src : NoticeSource) : (s.raise src).table = s.table := rfl

@[simp] theorem State.raise_pay (s : State) (src : NoticeSource) : (s.raise src).pay = s.pay := rfl

@[simp] theorem State.raise_journal (s : State) (src : NoticeSource) : (s.raise src).journal = s.journal := rfl

@[simp] theorem State.raise_shift (s : State) (src : NoticeSource) : (s.raise src).shift = s.shift := rfl

@[simp] theorem State.raise_sign (s : State) (src : NoticeSource) : (s.raise src).sign = s.sign := rfl

@[simp] theorem State.raise_intercom (s : State) (src : NoticeSource) : (s.raise src).intercom = s.intercom := rfl

@[simp] theorem State.raise_ports (s : State) (src : NoticeSource) : (s.raise src).ports = s.ports := rfl

@[simp] theorem State.raise_windowMs (s : State) (src : NoticeSource) : (s.raise src).windowMs = s.windowMs := rfl

@[simp] theorem State.raise_secondMs (s : State) (src : NoticeSource) : (s.raise src).secondMs = s.secondMs := rfl

@[simp] theorem State.raise_powered (s : State) (src : NoticeSource) : (s.raise src).powered = s.powered := rfl

@[simp] theorem State.raise_pending (s : State) (src : NoticeSource) : (s.raise src).pending = s.pending := rfl

@[simp] theorem State.raise_party (s : State) (src : NoticeSource) (j : Fin 4) : (s.raise src).party j = s.party j :=
  rfl

@[simp] theorem State.raise_slotList (s : State) (src : NoticeSource) : (s.raise src).slotList = s.slotList :=
  rfl

@[simp] theorem State.raise_nonVacant (s : State) (src : NoticeSource) : (s.raise src).nonVacant = s.nonVacant :=
  rfl

@[simp] theorem State.raise_runningCount (s : State) (src : NoticeSource) : (s.raise src).runningCount = s.runningCount :=
  rfl

@[simp] theorem State.raise_deriveSign (s : State) (src : NoticeSource) : (s.raise src).deriveSign = s.deriveSign :=
  rfl

@[simp] theorem State.raise_factors (s : State) (src : NoticeSource) (q : AudioPath) : (s.raise src).factors q = s.factors q :=
  rfl

/-! Raising a pulse source on a condition changes the notices alone. -/

@[simp] theorem State.raiseIf_meas (s : State) (c : Bool) (src : NoticeSource) : (s.raiseIf c src).meas = s.meas := by cases c <;> rfl

@[simp] theorem State.raiseIf_store (s : State) (c : Bool) (src : NoticeSource) : (s.raiseIf c src).store = s.store := by cases c <;> rfl

@[simp] theorem State.raiseIf_table (s : State) (c : Bool) (src : NoticeSource) : (s.raiseIf c src).table = s.table := by cases c <;> rfl

@[simp] theorem State.raiseIf_pay (s : State) (c : Bool) (src : NoticeSource) : (s.raiseIf c src).pay = s.pay := by cases c <;> rfl

@[simp] theorem State.raiseIf_journal (s : State) (c : Bool) (src : NoticeSource) : (s.raiseIf c src).journal = s.journal := by cases c <;> rfl

@[simp] theorem State.raiseIf_shift (s : State) (c : Bool) (src : NoticeSource) : (s.raiseIf c src).shift = s.shift := by cases c <;> rfl

@[simp] theorem State.raiseIf_sign (s : State) (c : Bool) (src : NoticeSource) : (s.raiseIf c src).sign = s.sign := by cases c <;> rfl

@[simp] theorem State.raiseIf_intercom (s : State) (c : Bool) (src : NoticeSource) : (s.raiseIf c src).intercom = s.intercom := by cases c <;> rfl

@[simp] theorem State.raiseIf_ports (s : State) (c : Bool) (src : NoticeSource) : (s.raiseIf c src).ports = s.ports := by cases c <;> rfl

@[simp] theorem State.raiseIf_windowMs (s : State) (c : Bool) (src : NoticeSource) : (s.raiseIf c src).windowMs = s.windowMs := by cases c <;> rfl

@[simp] theorem State.raiseIf_secondMs (s : State) (c : Bool) (src : NoticeSource) : (s.raiseIf c src).secondMs = s.secondMs := by cases c <;> rfl

@[simp] theorem State.raiseIf_powered (s : State) (c : Bool) (src : NoticeSource) : (s.raiseIf c src).powered = s.powered := by cases c <;> rfl

@[simp] theorem State.raiseIf_pending (s : State) (c : Bool) (src : NoticeSource) : (s.raiseIf c src).pending = s.pending := by cases c <;> rfl

@[simp] theorem State.raiseIf_party (s : State) (c : Bool) (src : NoticeSource) (j : Fin 4) : (s.raiseIf c src).party j = s.party j :=
  by cases c <;> rfl

@[simp] theorem State.raiseIf_slotList (s : State) (c : Bool) (src : NoticeSource) : (s.raiseIf c src).slotList = s.slotList :=
  by cases c <;> rfl

@[simp] theorem State.raiseIf_nonVacant (s : State) (c : Bool) (src : NoticeSource) : (s.raiseIf c src).nonVacant = s.nonVacant :=
  by cases c <;> rfl

@[simp] theorem State.raiseIf_runningCount (s : State) (c : Bool) (src : NoticeSource) : (s.raiseIf c src).runningCount = s.runningCount :=
  by cases c <;> rfl

@[simp] theorem State.raiseIf_deriveSign (s : State) (c : Bool) (src : NoticeSource) : (s.raiseIf c src).deriveSign = s.deriveSign :=
  by cases c <;> rfl

@[simp] theorem State.raiseIf_factors (s : State) (c : Bool) (src : NoticeSource) (q : AudioPath) : (s.raiseIf c src).factors q = s.factors q :=
  by cases c <;> rfl

/-! Deriving the sign afresh changes the sign alone. -/

@[simp] theorem State.updateSign_meas (s : State) : (s.updateSign).meas = s.meas :=
  by unfold State.updateSign; split <;> rfl

@[simp] theorem State.updateSign_store (s : State) : (s.updateSign).store = s.store :=
  by unfold State.updateSign; split <;> rfl

@[simp] theorem State.updateSign_table (s : State) : (s.updateSign).table = s.table :=
  by unfold State.updateSign; split <;> rfl

@[simp] theorem State.updateSign_pay (s : State) : (s.updateSign).pay = s.pay :=
  by unfold State.updateSign; split <;> rfl

@[simp] theorem State.updateSign_journal (s : State) : (s.updateSign).journal = s.journal :=
  by unfold State.updateSign; split <;> rfl

@[simp] theorem State.updateSign_shift (s : State) : (s.updateSign).shift = s.shift :=
  by unfold State.updateSign; split <;> rfl

@[simp] theorem State.updateSign_intercom (s : State) : (s.updateSign).intercom = s.intercom :=
  by unfold State.updateSign; split <;> rfl

@[simp] theorem State.updateSign_notices (s : State) : (s.updateSign).notices = s.notices :=
  by unfold State.updateSign; split <;> rfl

@[simp] theorem State.updateSign_ports (s : State) : (s.updateSign).ports = s.ports :=
  by unfold State.updateSign; split <;> rfl

@[simp] theorem State.updateSign_windowMs (s : State) : (s.updateSign).windowMs = s.windowMs :=
  by unfold State.updateSign; split <;> rfl

@[simp] theorem State.updateSign_secondMs (s : State) : (s.updateSign).secondMs = s.secondMs :=
  by unfold State.updateSign; split <;> rfl

@[simp] theorem State.updateSign_powered (s : State) : (s.updateSign).powered = s.powered :=
  by unfold State.updateSign; split <;> rfl

@[simp] theorem State.updateSign_pending (s : State) : (s.updateSign).pending = s.pending :=
  by unfold State.updateSign; split <;> rfl

@[simp] theorem State.updateSign_party (s : State) (j : Fin 4) : (s.updateSign).party j = s.party j :=
  by unfold State.updateSign; split <;> rfl

@[simp] theorem State.updateSign_slotList (s : State) : (s.updateSign).slotList = s.slotList :=
  by unfold State.updateSign; split <;> rfl

@[simp] theorem State.updateSign_nonVacant (s : State) : (s.updateSign).nonVacant = s.nonVacant :=
  by unfold State.updateSign; split <;> rfl

@[simp] theorem State.updateSign_runningCount (s : State) : (s.updateSign).runningCount = s.runningCount :=
  by unfold State.updateSign; split <;> rfl

@[simp] theorem State.updateSign_deriveSign (s : State) : (s.updateSign).deriveSign = s.deriveSign :=
  by unfold State.updateSign; split <;> rfl

@[simp] theorem State.updateSign_factors (s : State) (q : AudioPath) : (s.updateSign).factors q = s.factors q :=
  by unfold State.updateSign; split <;> rfl

/-! Cancelling a lamp test changes the sign alone (R154). -/

@[simp] theorem State.cancelTest_meas (s : State) : (s.cancelTest).meas = s.meas :=
  by unfold State.cancelTest State.settleSign State.updateSign; split <;> rfl

@[simp] theorem State.cancelTest_store (s : State) : (s.cancelTest).store = s.store :=
  by unfold State.cancelTest State.settleSign State.updateSign; split <;> rfl

@[simp] theorem State.cancelTest_table (s : State) : (s.cancelTest).table = s.table :=
  by unfold State.cancelTest State.settleSign State.updateSign; split <;> rfl

@[simp] theorem State.cancelTest_pay (s : State) : (s.cancelTest).pay = s.pay :=
  by unfold State.cancelTest State.settleSign State.updateSign; split <;> rfl

@[simp] theorem State.cancelTest_journal (s : State) : (s.cancelTest).journal = s.journal :=
  by unfold State.cancelTest State.settleSign State.updateSign; split <;> rfl

@[simp] theorem State.cancelTest_shift (s : State) : (s.cancelTest).shift = s.shift :=
  by unfold State.cancelTest State.settleSign State.updateSign; split <;> rfl

@[simp] theorem State.cancelTest_intercom (s : State) : (s.cancelTest).intercom = s.intercom :=
  by unfold State.cancelTest State.settleSign State.updateSign; split <;> rfl

@[simp] theorem State.cancelTest_notices (s : State) : (s.cancelTest).notices = s.notices :=
  by unfold State.cancelTest State.settleSign State.updateSign; split <;> rfl

@[simp] theorem State.cancelTest_ports (s : State) : (s.cancelTest).ports = s.ports :=
  by unfold State.cancelTest State.settleSign State.updateSign; split <;> rfl

@[simp] theorem State.cancelTest_windowMs (s : State) : (s.cancelTest).windowMs = s.windowMs :=
  by unfold State.cancelTest State.settleSign State.updateSign; split <;> rfl

@[simp] theorem State.cancelTest_secondMs (s : State) : (s.cancelTest).secondMs = s.secondMs :=
  by unfold State.cancelTest State.settleSign State.updateSign; split <;> rfl

@[simp] theorem State.cancelTest_powered (s : State) : (s.cancelTest).powered = s.powered :=
  by unfold State.cancelTest State.settleSign State.updateSign; split <;> rfl

@[simp] theorem State.cancelTest_pending (s : State) : (s.cancelTest).pending = s.pending :=
  by unfold State.cancelTest State.settleSign State.updateSign; split <;> rfl

@[simp] theorem State.cancelTest_slotList (s : State) : (s.cancelTest).slotList = s.slotList :=
  by unfold State.cancelTest State.settleSign State.updateSign; split <;> rfl

@[simp] theorem State.cancelTest_nonVacant (s : State) : (s.cancelTest).nonVacant = s.nonVacant :=
  by unfold State.cancelTest State.settleSign State.updateSign; split <;> rfl

@[simp] theorem State.cancelTest_runningCount (s : State) : (s.cancelTest).runningCount = s.runningCount :=
  by unfold State.cancelTest State.settleSign State.updateSign; split <;> rfl

@[simp] theorem State.cancelTest_deriveSign (s : State) : (s.cancelTest).deriveSign = s.deriveSign :=
  by unfold State.cancelTest State.settleSign State.updateSign; split <;> rfl

@[simp] theorem State.cancelTest_party (s : State) (j : Fin 4) : (s.cancelTest).party j = s.party j :=
  by unfold State.cancelTest State.settleSign State.updateSign; split <;> rfl

@[simp] theorem State.cancelTest_factors (s : State) (q : AudioPath) : (s.cancelTest).factors q = s.factors q :=
  by unfold State.cancelTest State.settleSign State.updateSign; split <;> rfl

/-! Settling the gates changes the intercom unit alone. -/

@[simp] theorem State.settleGates_meas (s : State) : (s.settleGates).meas = s.meas := rfl

@[simp] theorem State.settleGates_store (s : State) : (s.settleGates).store = s.store := rfl

@[simp] theorem State.settleGates_table (s : State) : (s.settleGates).table = s.table := rfl

@[simp] theorem State.settleGates_pay (s : State) : (s.settleGates).pay = s.pay := rfl

@[simp] theorem State.settleGates_journal (s : State) : (s.settleGates).journal = s.journal := rfl

@[simp] theorem State.settleGates_shift (s : State) : (s.settleGates).shift = s.shift := rfl

@[simp] theorem State.settleGates_sign (s : State) : (s.settleGates).sign = s.sign := rfl

@[simp] theorem State.settleGates_notices (s : State) : (s.settleGates).notices = s.notices := rfl

@[simp] theorem State.settleGates_ports (s : State) : (s.settleGates).ports = s.ports := rfl

@[simp] theorem State.settleGates_windowMs (s : State) : (s.settleGates).windowMs = s.windowMs := rfl

@[simp] theorem State.settleGates_secondMs (s : State) : (s.settleGates).secondMs = s.secondMs := rfl

@[simp] theorem State.settleGates_powered (s : State) : (s.settleGates).powered = s.powered := rfl

@[simp] theorem State.settleGates_pending (s : State) : (s.settleGates).pending = s.pending := rfl

@[simp] theorem State.settleGates_party (s : State) (j : Fin 4) : (s.settleGates).party j = s.party j :=
  rfl

@[simp] theorem State.settleGates_slotList (s : State) : (s.settleGates).slotList = s.slotList :=
  rfl

@[simp] theorem State.settleGates_nonVacant (s : State) : (s.settleGates).nonVacant = s.nonVacant :=
  rfl

@[simp] theorem State.settleGates_runningCount (s : State) : (s.settleGates).runningCount = s.runningCount :=
  rfl

@[simp] theorem State.settleGates_deriveSign (s : State) : (s.settleGates).deriveSign = s.deriveSign :=
  rfl

/-! Requesting a tone changes the intercom unit alone. -/

@[simp] theorem State.requestTone_meas (s : State) (side : CodecSide) (t : Tone) : (s.requestTone side t).meas = s.meas := rfl

@[simp] theorem State.requestTone_store (s : State) (side : CodecSide) (t : Tone) : (s.requestTone side t).store = s.store := rfl

@[simp] theorem State.requestTone_table (s : State) (side : CodecSide) (t : Tone) : (s.requestTone side t).table = s.table := rfl

@[simp] theorem State.requestTone_pay (s : State) (side : CodecSide) (t : Tone) : (s.requestTone side t).pay = s.pay := rfl

@[simp] theorem State.requestTone_journal (s : State) (side : CodecSide) (t : Tone) : (s.requestTone side t).journal = s.journal := rfl

@[simp] theorem State.requestTone_shift (s : State) (side : CodecSide) (t : Tone) : (s.requestTone side t).shift = s.shift := rfl

@[simp] theorem State.requestTone_sign (s : State) (side : CodecSide) (t : Tone) : (s.requestTone side t).sign = s.sign := rfl

@[simp] theorem State.requestTone_notices (s : State) (side : CodecSide) (t : Tone) : (s.requestTone side t).notices = s.notices := rfl

@[simp] theorem State.requestTone_ports (s : State) (side : CodecSide) (t : Tone) : (s.requestTone side t).ports = s.ports := rfl

@[simp] theorem State.requestTone_windowMs (s : State) (side : CodecSide) (t : Tone) : (s.requestTone side t).windowMs = s.windowMs := rfl

@[simp] theorem State.requestTone_secondMs (s : State) (side : CodecSide) (t : Tone) : (s.requestTone side t).secondMs = s.secondMs := rfl

@[simp] theorem State.requestTone_powered (s : State) (side : CodecSide) (t : Tone) : (s.requestTone side t).powered = s.powered := rfl

@[simp] theorem State.requestTone_pending (s : State) (side : CodecSide) (t : Tone) : (s.requestTone side t).pending = s.pending := rfl

@[simp] theorem State.requestTone_party (s : State) (side : CodecSide) (t : Tone) (j : Fin 4) : (s.requestTone side t).party j = s.party j :=
  rfl

@[simp] theorem State.requestTone_slotList (s : State) (side : CodecSide) (t : Tone) : (s.requestTone side t).slotList = s.slotList :=
  rfl

@[simp] theorem State.requestTone_nonVacant (s : State) (side : CodecSide) (t : Tone) : (s.requestTone side t).nonVacant = s.nonVacant :=
  rfl

@[simp] theorem State.requestTone_runningCount (s : State) (side : CodecSide) (t : Tone) : (s.requestTone side t).runningCount = s.runningCount :=
  rfl

@[simp] theorem State.requestTone_deriveSign (s : State) (side : CodecSide) (t : Tone) : (s.requestTone side t).deriveSign = s.deriveSign :=
  rfl

/-! Putting a party record changes the party table alone. -/

@[simp] theorem State.setParty_meas (s : State) (i : Fin 4) (x : Option Party) : (s.setParty i x).meas = s.meas := rfl

@[simp] theorem State.setParty_store (s : State) (i : Fin 4) (x : Option Party) : (s.setParty i x).store = s.store := rfl

@[simp] theorem State.setParty_pay (s : State) (i : Fin 4) (x : Option Party) : (s.setParty i x).pay = s.pay := rfl

@[simp] theorem State.setParty_journal (s : State) (i : Fin 4) (x : Option Party) : (s.setParty i x).journal = s.journal := rfl

@[simp] theorem State.setParty_shift (s : State) (i : Fin 4) (x : Option Party) : (s.setParty i x).shift = s.shift := rfl

@[simp] theorem State.setParty_sign (s : State) (i : Fin 4) (x : Option Party) : (s.setParty i x).sign = s.sign := rfl

@[simp] theorem State.setParty_intercom (s : State) (i : Fin 4) (x : Option Party) : (s.setParty i x).intercom = s.intercom := rfl

@[simp] theorem State.setParty_notices (s : State) (i : Fin 4) (x : Option Party) : (s.setParty i x).notices = s.notices := rfl

@[simp] theorem State.setParty_ports (s : State) (i : Fin 4) (x : Option Party) : (s.setParty i x).ports = s.ports := rfl

@[simp] theorem State.setParty_windowMs (s : State) (i : Fin 4) (x : Option Party) : (s.setParty i x).windowMs = s.windowMs := rfl

@[simp] theorem State.setParty_secondMs (s : State) (i : Fin 4) (x : Option Party) : (s.setParty i x).secondMs = s.secondMs := rfl

@[simp] theorem State.setParty_powered (s : State) (i : Fin 4) (x : Option Party) : (s.setParty i x).powered = s.powered := rfl

@[simp] theorem State.setParty_pending (s : State) (i : Fin 4) (x : Option Party) : (s.setParty i x).pending = s.pending := rfl

@[simp] theorem State.setParty_factors (s : State) (i : Fin 4) (x : Option Party) (q : AudioPath) : (s.setParty i x).factors q = s.factors q :=
  rfl

/-! Replacing the zone state changes the tariff store alone. -/

@[simp] theorem State.setZone_meas (s : State) (z : Zone) : (s.setZone z).meas = s.meas := rfl

@[simp] theorem State.setZone_table (s : State) (z : Zone) : (s.setZone z).table = s.table := rfl

@[simp] theorem State.setZone_pay (s : State) (z : Zone) : (s.setZone z).pay = s.pay := rfl

@[simp] theorem State.setZone_journal (s : State) (z : Zone) : (s.setZone z).journal = s.journal := rfl

@[simp] theorem State.setZone_shift (s : State) (z : Zone) : (s.setZone z).shift = s.shift := rfl

@[simp] theorem State.setZone_sign (s : State) (z : Zone) : (s.setZone z).sign = s.sign := rfl

@[simp] theorem State.setZone_intercom (s : State) (z : Zone) : (s.setZone z).intercom = s.intercom := rfl

@[simp] theorem State.setZone_notices (s : State) (z : Zone) : (s.setZone z).notices = s.notices := rfl

@[simp] theorem State.setZone_ports (s : State) (z : Zone) : (s.setZone z).ports = s.ports := rfl

@[simp] theorem State.setZone_windowMs (s : State) (z : Zone) : (s.setZone z).windowMs = s.windowMs := rfl

@[simp] theorem State.setZone_secondMs (s : State) (z : Zone) : (s.setZone z).secondMs = s.secondMs := rfl

@[simp] theorem State.setZone_powered (s : State) (z : Zone) : (s.setZone z).powered = s.powered := rfl

@[simp] theorem State.setZone_pending (s : State) (z : Zone) : (s.setZone z).pending = s.pending := rfl

@[simp] theorem State.setZone_party (s : State) (z : Zone) (j : Fin 4) : (s.setZone z).party j = s.party j :=
  rfl

@[simp] theorem State.setZone_slotList (s : State) (z : Zone) : (s.setZone z).slotList = s.slotList :=
  rfl

@[simp] theorem State.setZone_nonVacant (s : State) (z : Zone) : (s.setZone z).nonVacant = s.nonVacant :=
  rfl

@[simp] theorem State.setZone_runningCount (s : State) (z : Zone) : (s.setZone z).runningCount = s.runningCount :=
  rfl

@[simp] theorem State.setZone_deriveSign (s : State) (z : Zone) : (s.setZone z).deriveSign = s.deriveSign :=
  rfl

@[simp] theorem State.setZone_factors (s : State) (z : Zone) (q : AudioPath) : (s.setZone z).factors q = s.factors q :=
  rfl

/-! Changing the run changes the measurement unit alone. -/

@[simp] theorem State.setRun_store (s : State) (r : CalRun) : (s.setRun r).store = s.store := rfl

@[simp] theorem State.setRun_table (s : State) (r : CalRun) : (s.setRun r).table = s.table := rfl

@[simp] theorem State.setRun_pay (s : State) (r : CalRun) : (s.setRun r).pay = s.pay := rfl

@[simp] theorem State.setRun_journal (s : State) (r : CalRun) : (s.setRun r).journal = s.journal := rfl

@[simp] theorem State.setRun_shift (s : State) (r : CalRun) : (s.setRun r).shift = s.shift := rfl

@[simp] theorem State.setRun_sign (s : State) (r : CalRun) : (s.setRun r).sign = s.sign := rfl

@[simp] theorem State.setRun_intercom (s : State) (r : CalRun) : (s.setRun r).intercom = s.intercom := rfl

@[simp] theorem State.setRun_notices (s : State) (r : CalRun) : (s.setRun r).notices = s.notices := rfl

@[simp] theorem State.setRun_ports (s : State) (r : CalRun) : (s.setRun r).ports = s.ports := rfl

@[simp] theorem State.setRun_windowMs (s : State) (r : CalRun) : (s.setRun r).windowMs = s.windowMs := rfl

@[simp] theorem State.setRun_secondMs (s : State) (r : CalRun) : (s.setRun r).secondMs = s.secondMs := rfl

@[simp] theorem State.setRun_powered (s : State) (r : CalRun) : (s.setRun r).powered = s.powered := rfl

@[simp] theorem State.setRun_pending (s : State) (r : CalRun) : (s.setRun r).pending = s.pending := rfl

@[simp] theorem State.setRun_party (s : State) (r : CalRun) (j : Fin 4) : (s.setRun r).party j = s.party j :=
  rfl

@[simp] theorem State.setRun_slotList (s : State) (r : CalRun) : (s.setRun r).slotList = s.slotList :=
  rfl

@[simp] theorem State.setRun_nonVacant (s : State) (r : CalRun) : (s.setRun r).nonVacant = s.nonVacant :=
  rfl

@[simp] theorem State.setRun_runningCount (s : State) (r : CalRun) : (s.setRun r).runningCount = s.runningCount :=
  rfl

@[simp] theorem State.setRun_deriveSign (s : State) (r : CalRun) : (s.setRun r).deriveSign = s.deriveSign :=
  rfl

@[simp] theorem State.setRun_factors (s : State) (r : CalRun) (q : AudioPath) : (s.setRun r).factors q = s.factors q :=
  rfl

/-! Changing the intercom unit changes nothing else. -/

@[simp] theorem State.setIntercom_meas (s : State) (c : Intercom) : (s.setIntercom c).meas = s.meas := rfl

@[simp] theorem State.setIntercom_store (s : State) (c : Intercom) : (s.setIntercom c).store = s.store := rfl

@[simp] theorem State.setIntercom_table (s : State) (c : Intercom) : (s.setIntercom c).table = s.table := rfl

@[simp] theorem State.setIntercom_pay (s : State) (c : Intercom) : (s.setIntercom c).pay = s.pay := rfl

@[simp] theorem State.setIntercom_journal (s : State) (c : Intercom) : (s.setIntercom c).journal = s.journal := rfl

@[simp] theorem State.setIntercom_shift (s : State) (c : Intercom) : (s.setIntercom c).shift = s.shift := rfl

@[simp] theorem State.setIntercom_sign (s : State) (c : Intercom) : (s.setIntercom c).sign = s.sign := rfl

@[simp] theorem State.setIntercom_notices (s : State) (c : Intercom) : (s.setIntercom c).notices = s.notices := rfl

@[simp] theorem State.setIntercom_ports (s : State) (c : Intercom) : (s.setIntercom c).ports = s.ports := rfl

@[simp] theorem State.setIntercom_windowMs (s : State) (c : Intercom) : (s.setIntercom c).windowMs = s.windowMs := rfl

@[simp] theorem State.setIntercom_secondMs (s : State) (c : Intercom) : (s.setIntercom c).secondMs = s.secondMs := rfl

@[simp] theorem State.setIntercom_powered (s : State) (c : Intercom) : (s.setIntercom c).powered = s.powered := rfl

@[simp] theorem State.setIntercom_pending (s : State) (c : Intercom) : (s.setIntercom c).pending = s.pending := rfl

@[simp] theorem State.setIntercom_party (s : State) (c : Intercom) (j : Fin 4) : (s.setIntercom c).party j = s.party j :=
  rfl

@[simp] theorem State.setIntercom_slotList (s : State) (c : Intercom) : (s.setIntercom c).slotList = s.slotList :=
  rfl

@[simp] theorem State.setIntercom_nonVacant (s : State) (c : Intercom) : (s.setIntercom c).nonVacant = s.nonVacant :=
  rfl

@[simp] theorem State.setIntercom_runningCount (s : State) (c : Intercom) : (s.setIntercom c).runningCount = s.runningCount :=
  rfl

@[simp] theorem State.setIntercom_deriveSign (s : State) (c : Intercom) : (s.setIntercom c).deriveSign = s.deriveSign :=
  rfl

/-! Changing a port's notices changes the notices alone. -/

@[simp] theorem State.setNotices_meas (s : State) (p : Port) (x : PortNotices) : (s.setNotices p x).meas = s.meas := rfl

@[simp] theorem State.setNotices_store (s : State) (p : Port) (x : PortNotices) : (s.setNotices p x).store = s.store := rfl

@[simp] theorem State.setNotices_table (s : State) (p : Port) (x : PortNotices) : (s.setNotices p x).table = s.table := rfl

@[simp] theorem State.setNotices_pay (s : State) (p : Port) (x : PortNotices) : (s.setNotices p x).pay = s.pay := rfl

@[simp] theorem State.setNotices_journal (s : State) (p : Port) (x : PortNotices) : (s.setNotices p x).journal = s.journal := rfl

@[simp] theorem State.setNotices_shift (s : State) (p : Port) (x : PortNotices) : (s.setNotices p x).shift = s.shift := rfl

@[simp] theorem State.setNotices_sign (s : State) (p : Port) (x : PortNotices) : (s.setNotices p x).sign = s.sign := rfl

@[simp] theorem State.setNotices_intercom (s : State) (p : Port) (x : PortNotices) : (s.setNotices p x).intercom = s.intercom := rfl

@[simp] theorem State.setNotices_ports (s : State) (p : Port) (x : PortNotices) : (s.setNotices p x).ports = s.ports := rfl

@[simp] theorem State.setNotices_windowMs (s : State) (p : Port) (x : PortNotices) : (s.setNotices p x).windowMs = s.windowMs := rfl

@[simp] theorem State.setNotices_secondMs (s : State) (p : Port) (x : PortNotices) : (s.setNotices p x).secondMs = s.secondMs := rfl

@[simp] theorem State.setNotices_powered (s : State) (p : Port) (x : PortNotices) : (s.setNotices p x).powered = s.powered := rfl

@[simp] theorem State.setNotices_pending (s : State) (p : Port) (x : PortNotices) : (s.setNotices p x).pending = s.pending := rfl

@[simp] theorem State.setNotices_party (s : State) (p : Port) (x : PortNotices) (j : Fin 4) : (s.setNotices p x).party j = s.party j :=
  rfl

@[simp] theorem State.setNotices_slotList (s : State) (p : Port) (x : PortNotices) : (s.setNotices p x).slotList = s.slotList :=
  rfl

@[simp] theorem State.setNotices_nonVacant (s : State) (p : Port) (x : PortNotices) : (s.setNotices p x).nonVacant = s.nonVacant :=
  rfl

@[simp] theorem State.setNotices_runningCount (s : State) (p : Port) (x : PortNotices) : (s.setNotices p x).runningCount = s.runningCount :=
  rfl

@[simp] theorem State.setNotices_deriveSign (s : State) (p : Port) (x : PortNotices) : (s.setNotices p x).deriveSign = s.deriveSign :=
  rfl

@[simp] theorem State.setNotices_factors (s : State) (p : Port) (x : PortNotices) (q : AudioPath) : (s.setNotices p x).factors q = s.factors q :=
  rfl

/-! Returning a party to STOPPED changes the party table alone. -/

@[simp] theorem State.releaseParty_meas (s : State) (i : Fin 4) : (s.releaseParty i).meas = s.meas :=
  by unfold State.releaseParty; split <;> rfl

@[simp] theorem State.releaseParty_store (s : State) (i : Fin 4) : (s.releaseParty i).store = s.store :=
  by unfold State.releaseParty; split <;> rfl

@[simp] theorem State.releaseParty_pay (s : State) (i : Fin 4) : (s.releaseParty i).pay = s.pay :=
  by unfold State.releaseParty; split <;> rfl

@[simp] theorem State.releaseParty_journal (s : State) (i : Fin 4) : (s.releaseParty i).journal = s.journal :=
  by unfold State.releaseParty; split <;> rfl

@[simp] theorem State.releaseParty_shift (s : State) (i : Fin 4) : (s.releaseParty i).shift = s.shift :=
  by unfold State.releaseParty; split <;> rfl

@[simp] theorem State.releaseParty_sign (s : State) (i : Fin 4) : (s.releaseParty i).sign = s.sign :=
  by unfold State.releaseParty; split <;> rfl

@[simp] theorem State.releaseParty_intercom (s : State) (i : Fin 4) : (s.releaseParty i).intercom = s.intercom :=
  by unfold State.releaseParty; split <;> rfl

@[simp] theorem State.releaseParty_notices (s : State) (i : Fin 4) : (s.releaseParty i).notices = s.notices :=
  by unfold State.releaseParty; split <;> rfl

@[simp] theorem State.releaseParty_ports (s : State) (i : Fin 4) : (s.releaseParty i).ports = s.ports :=
  by unfold State.releaseParty; split <;> rfl

@[simp] theorem State.releaseParty_windowMs (s : State) (i : Fin 4) : (s.releaseParty i).windowMs = s.windowMs :=
  by unfold State.releaseParty; split <;> rfl

@[simp] theorem State.releaseParty_secondMs (s : State) (i : Fin 4) : (s.releaseParty i).secondMs = s.secondMs :=
  by unfold State.releaseParty; split <;> rfl

@[simp] theorem State.releaseParty_powered (s : State) (i : Fin 4) : (s.releaseParty i).powered = s.powered :=
  by unfold State.releaseParty; split <;> rfl

@[simp] theorem State.releaseParty_pending (s : State) (i : Fin 4) : (s.releaseParty i).pending = s.pending :=
  by unfold State.releaseParty; split <;> rfl

@[simp] theorem State.releaseParty_factors (s : State) (i : Fin 4) (q : AudioPath) : (s.releaseParty i).factors q = s.factors q :=
  by unfold State.releaseParty; split <;> rfl

/-! Entering CLOSING changes the party table and the journal's queue. -/

@[simp] theorem State.enterClosing_meas (s : State) (i : Fin 4) (x : Party) : (s.enterClosing i x).meas = s.meas := rfl

@[simp] theorem State.enterClosing_store (s : State) (i : Fin 4) (x : Party) : (s.enterClosing i x).store = s.store := rfl

@[simp] theorem State.enterClosing_pay (s : State) (i : Fin 4) (x : Party) : (s.enterClosing i x).pay = s.pay := rfl

@[simp] theorem State.enterClosing_shift (s : State) (i : Fin 4) (x : Party) : (s.enterClosing i x).shift = s.shift := rfl

@[simp] theorem State.enterClosing_sign (s : State) (i : Fin 4) (x : Party) : (s.enterClosing i x).sign = s.sign := rfl

@[simp] theorem State.enterClosing_intercom (s : State) (i : Fin 4) (x : Party) : (s.enterClosing i x).intercom = s.intercom := rfl

@[simp] theorem State.enterClosing_notices (s : State) (i : Fin 4) (x : Party) : (s.enterClosing i x).notices = s.notices := rfl

@[simp] theorem State.enterClosing_ports (s : State) (i : Fin 4) (x : Party) : (s.enterClosing i x).ports = s.ports := rfl

@[simp] theorem State.enterClosing_windowMs (s : State) (i : Fin 4) (x : Party) : (s.enterClosing i x).windowMs = s.windowMs := rfl

@[simp] theorem State.enterClosing_secondMs (s : State) (i : Fin 4) (x : Party) : (s.enterClosing i x).secondMs = s.secondMs := rfl

@[simp] theorem State.enterClosing_powered (s : State) (i : Fin 4) (x : Party) : (s.enterClosing i x).powered = s.powered := rfl

@[simp] theorem State.enterClosing_pending (s : State) (i : Fin 4) (x : Party) : (s.enterClosing i x).pending = s.pending := rfl

@[simp] theorem State.enterClosing_factors (s : State) (i : Fin 4) (x : Party) (q : AudioPath) : (s.enterClosing i x).factors q = s.factors q :=
  rfl

/-! Applying a tender changes the party table and the journal's queue. -/

@[simp] theorem State.applyTender_meas (s : State) (i : Fin 4) (x : Party) (d : Tender) : (s.applyTender i x d).meas = s.meas :=
  by unfold State.applyTender; simp only []; split <;> rfl

@[simp] theorem State.applyTender_store (s : State) (i : Fin 4) (x : Party) (d : Tender) : (s.applyTender i x d).store = s.store :=
  by unfold State.applyTender; simp only []; split <;> rfl

@[simp] theorem State.applyTender_pay (s : State) (i : Fin 4) (x : Party) (d : Tender) : (s.applyTender i x d).pay = s.pay :=
  by unfold State.applyTender; simp only []; split <;> rfl

@[simp] theorem State.applyTender_shift (s : State) (i : Fin 4) (x : Party) (d : Tender) : (s.applyTender i x d).shift = s.shift :=
  by unfold State.applyTender; simp only []; split <;> rfl

@[simp] theorem State.applyTender_sign (s : State) (i : Fin 4) (x : Party) (d : Tender) : (s.applyTender i x d).sign = s.sign :=
  by unfold State.applyTender; simp only []; split <;> rfl

@[simp] theorem State.applyTender_intercom (s : State) (i : Fin 4) (x : Party) (d : Tender) : (s.applyTender i x d).intercom = s.intercom :=
  by unfold State.applyTender; simp only []; split <;> rfl

@[simp] theorem State.applyTender_notices (s : State) (i : Fin 4) (x : Party) (d : Tender) : (s.applyTender i x d).notices = s.notices :=
  by unfold State.applyTender; simp only []; split <;> rfl

@[simp] theorem State.applyTender_ports (s : State) (i : Fin 4) (x : Party) (d : Tender) : (s.applyTender i x d).ports = s.ports :=
  by unfold State.applyTender; simp only []; split <;> rfl

@[simp] theorem State.applyTender_windowMs (s : State) (i : Fin 4) (x : Party) (d : Tender) : (s.applyTender i x d).windowMs = s.windowMs :=
  by unfold State.applyTender; simp only []; split <;> rfl

@[simp] theorem State.applyTender_secondMs (s : State) (i : Fin 4) (x : Party) (d : Tender) : (s.applyTender i x d).secondMs = s.secondMs :=
  by unfold State.applyTender; simp only []; split <;> rfl

@[simp] theorem State.applyTender_powered (s : State) (i : Fin 4) (x : Party) (d : Tender) : (s.applyTender i x d).powered = s.powered :=
  by unfold State.applyTender; simp only []; split <;> rfl

@[simp] theorem State.applyTender_pending (s : State) (i : Fin 4) (x : Party) (d : Tender) : (s.applyTender i x d).pending = s.pending :=
  by unfold State.applyTender; simp only []; split <;> rfl

@[simp] theorem State.applyTender_factors (s : State) (i : Fin 4) (x : Party) (d : Tender) (q : AudioPath) : (s.applyTender i x d).factors q = s.factors q :=
  by unfold State.applyTender; simp only []; split <;> rfl

/-! Queuing an orphan approval changes the journal, the shift and the notices. -/

@[simp] theorem State.queueOrphan_meas (s : State) (o : OrphanEntry) : (s.queueOrphan o).meas = s.meas := rfl

@[simp] theorem State.queueOrphan_store (s : State) (o : OrphanEntry) : (s.queueOrphan o).store = s.store := rfl

@[simp] theorem State.queueOrphan_table (s : State) (o : OrphanEntry) : (s.queueOrphan o).table = s.table := rfl

@[simp] theorem State.queueOrphan_pay (s : State) (o : OrphanEntry) : (s.queueOrphan o).pay = s.pay := rfl

@[simp] theorem State.queueOrphan_sign (s : State) (o : OrphanEntry) : (s.queueOrphan o).sign = s.sign := rfl

@[simp] theorem State.queueOrphan_intercom (s : State) (o : OrphanEntry) : (s.queueOrphan o).intercom = s.intercom := rfl

@[simp] theorem State.queueOrphan_ports (s : State) (o : OrphanEntry) : (s.queueOrphan o).ports = s.ports := rfl

@[simp] theorem State.queueOrphan_windowMs (s : State) (o : OrphanEntry) : (s.queueOrphan o).windowMs = s.windowMs := rfl

@[simp] theorem State.queueOrphan_secondMs (s : State) (o : OrphanEntry) : (s.queueOrphan o).secondMs = s.secondMs := rfl

@[simp] theorem State.queueOrphan_powered (s : State) (o : OrphanEntry) : (s.queueOrphan o).powered = s.powered := rfl

@[simp] theorem State.queueOrphan_pending (s : State) (o : OrphanEntry) : (s.queueOrphan o).pending = s.pending := rfl

@[simp] theorem State.queueOrphan_party (s : State) (o : OrphanEntry) (j : Fin 4) : (s.queueOrphan o).party j = s.party j :=
  rfl

@[simp] theorem State.queueOrphan_slotList (s : State) (o : OrphanEntry) : (s.queueOrphan o).slotList = s.slotList :=
  rfl

@[simp] theorem State.queueOrphan_nonVacant (s : State) (o : OrphanEntry) : (s.queueOrphan o).nonVacant = s.nonVacant :=
  rfl

@[simp] theorem State.queueOrphan_runningCount (s : State) (o : OrphanEntry) : (s.queueOrphan o).runningCount = s.runningCount :=
  rfl

@[simp] theorem State.queueOrphan_factors (s : State) (o : OrphanEntry) (q : AudioPath) : (s.queueOrphan o).factors q = s.factors q :=
  rfl

/-! Setting a counted mark changes the party table alone. -/

@[simp] theorem State.markCounted_meas (s : State) (i : Fin 4) : (s.markCounted i).meas = s.meas := rfl

@[simp] theorem State.markCounted_store (s : State) (i : Fin 4) : (s.markCounted i).store = s.store := rfl

@[simp] theorem State.markCounted_pay (s : State) (i : Fin 4) : (s.markCounted i).pay = s.pay := rfl

@[simp] theorem State.markCounted_journal (s : State) (i : Fin 4) : (s.markCounted i).journal = s.journal := rfl

@[simp] theorem State.markCounted_shift (s : State) (i : Fin 4) : (s.markCounted i).shift = s.shift := rfl

@[simp] theorem State.markCounted_sign (s : State) (i : Fin 4) : (s.markCounted i).sign = s.sign := rfl

@[simp] theorem State.markCounted_intercom (s : State) (i : Fin 4) : (s.markCounted i).intercom = s.intercom := rfl

@[simp] theorem State.markCounted_notices (s : State) (i : Fin 4) : (s.markCounted i).notices = s.notices := rfl

@[simp] theorem State.markCounted_ports (s : State) (i : Fin 4) : (s.markCounted i).ports = s.ports := rfl

@[simp] theorem State.markCounted_windowMs (s : State) (i : Fin 4) : (s.markCounted i).windowMs = s.windowMs := rfl

@[simp] theorem State.markCounted_secondMs (s : State) (i : Fin 4) : (s.markCounted i).secondMs = s.secondMs := rfl

@[simp] theorem State.markCounted_powered (s : State) (i : Fin 4) : (s.markCounted i).powered = s.powered := rfl

@[simp] theorem State.markCounted_pending (s : State) (i : Fin 4) : (s.markCounted i).pending = s.pending := rfl

@[simp] theorem State.markCounted_factors (s : State) (i : Fin 4) (q : AudioPath) : (s.markCounted i).factors q = s.factors q :=
  rfl

/-! The values put in place. -/

@[simp] theorem State.setZone_zone (s : State) (z : Zone) : (s.setZone z).store.zone = z := rfl

@[simp] theorem State.setRun_run (s : State) (r : CalRun) : (s.setRun r).meas.run = r := rfl

@[simp] theorem State.setIntercom_intercom (s : State) (c : Intercom) : (s.setIntercom c).intercom = c := rfl

@[simp] theorem State.setParty_slots (s : State) (i : Fin 4) (x : Option Party) :
    (s.setParty i x).table.slots = s.table.slots.set i x := rfl

/-- A slot after a record is put: the record at its own slot, the other slots as they were. -/
theorem State.setParty_party (s : State) (i j : Fin 4) (x : Option Party) :
    (s.setParty i x).party j = if i = j then x else s.party j := by
  simp only [State.party, State.setParty, Fin.getElem_fin, Vector.getElem_set, Fin.ext_iff]

@[simp] theorem State.setParty_party_self (s : State) (i : Fin 4) (x : Option Party) : (s.setParty i x).party i = x := by
  simp [State.setParty_party]

/-! ## One of several like things -/

@[simp] theorem PerPort.get_set_self {α : Type} (x : PerPort α) (p : Port) (a : α) : (x.set p a).get p = a := by
  cases p <;> rfl

theorem PerPort.get_set_other {α : Type} (x : PerPort α) (p q : Port) (a : α) (h : q ≠ p) :
    (x.set p a).get q = x.get q := by
  cases p <;> cases q <;> first | rfl | exact absurd rfl h

@[simp] theorem PerPort.get_mapEach {α : Type} (x : PerPort α) (f : Port → α → α) (p : Port) :
    (x.mapEach f).get p = f p (x.get p) := by
  cases p <;> rfl

@[simp] theorem PerCodec.get_set_self {α : Type} (x : PerCodec α) (p : CodecSide) (a : α) : (x.set p a).get p = a := by
  cases p <;> rfl

theorem PerCodec.get_set_other {α : Type} (x : PerCodec α) (p q : CodecSide) (a : α) (h : q ≠ p) :
    (x.set p a).get q = x.get q := by
  cases p <;> cases q <;> first | rfl | exact absurd rfl h

@[simp] theorem PerPath.get_set_self {α : Type} (x : PerPath α) (p : AudioPath) (a : α) : (x.set p a).get p = a := by
  cases p <;> rfl

theorem PerPath.get_set_other {α : Type} (x : PerPath α) (p q : AudioPath) (a : α) (h : q ≠ p) :
    (x.set p a).get q = x.get q := by
  cases p <;> cases q <;> first | rfl | exact absurd rfl h

@[simp] theorem PerKey.get_set_self {α : Type} (x : PerKey α) (p : TalkSide) (a : α) : (x.set p a).get p = a := by
  cases p <;> rfl

theorem PerKey.get_set_other {α : Type} (x : PerKey α) (p q : TalkSide) (a : α) (h : q ≠ p) :
    (x.set p a).get q = x.get q := by
  cases p <;> cases q <;> first | rfl | exact absurd rfl h

end Sys2Proof.Machine
end

