-- ==== Sys2Proof/Laws/Requests.lean ====
section
/-! SUPPORT. What a request and an event can do: the one lemma each that says it once. -/

namespace Sys2Proof.Machine

/-- A request taken at a port of its role: its body's state, with its reply in the port's buffer. -/
theorem request_taken {p : Port} {k : Kind} {body : State → Answer} {s : State} (hp : s.powered = true)
    (hr : k.ports.has p = true) :
    request p k body s = .next ((body s).state.putReply p k.code (body s).status (body s).results) := by
  simp [request, hp, hr]

/-- A request of a port without the role. -/
theorem request_role {p : Port} {k : Kind} {body : State → Answer} {s : State} (hp : s.powered = true)
    (hr : k.ports.has p = false) : request p k body s = .next (s.putReply p k.code .role []) := by
  simp [request, hp, hr]

/-- Everything a request can do: nothing without power, a ROLE reply, or its body with its reply. -/
theorem request_cases {p : Port} {k : Kind} {body : State → Answer} {s t : State} (h : request p k body s = .next t) :
    (s.powered = false ∧ t = s) ∨
    (s.powered = true ∧ k.ports.has p = false ∧ t = s.putReply p k.code .role []) ∨
    (s.powered = true ∧ k.ports.has p = true ∧
      t = (body s).state.putReply p k.code (body s).status (body s).results) := by
  cases hp : s.powered <;> cases hr : k.ports.has p <;> simp [request, hp, hr] at h <;> simp [h]

/-- A request keeps what its body and a reply keep. -/
theorem request_keeps {P : State → Prop} {p : Port} {k : Kind} {body : State → Answer} {s t : State}
    (h : request p k body s = .next t) (hs : P s) (hbody : P s → s.powered = true → P (body s).state)
    (hreply : ∀ (u : State) (st : Status) (res : List Byte), P u → P (u.putReply p k.code st res)) : P t := by
  obtain ⟨-, rfl⟩ | ⟨-, -, rfl⟩ | ⟨hp, -, rfl⟩ := request_cases h
  · exact hs
  · exact hreply _ _ _ hs
  · exact hreply _ _ _ (hbody hs hp)

/-- An event of a powered part. -/
theorem event_taken {f : State → State} {s : State} (hp : s.powered = true) : event f s = .next (f s) := by
  simp [event, hp]

/-- Everything an event can do: nothing without power, or its function. -/
theorem event_cases {f : State → State} {s t : State} (h : event f s = .next t) :
    (s.powered = false ∧ t = s) ∨ (s.powered = true ∧ t = f s) := by
  cases hp : s.powered <;> simp [event, hp] at h <;> simp [h]

/-- An event keeps what its function keeps. -/
theorem event_keeps {P : State → Prop} {f : State → State} {s t : State} (h : event f s = .next t) (hs : P s)
    (hf : P s → s.powered = true → P (f s)) : P t := by
  obtain ⟨-, rfl⟩ | ⟨hp, rfl⟩ := event_cases h
  · exact hs
  · exact hf hs hp

/-- A step either lets a millisecond pass or runs the command at the front of the queue. -/
theorem step_cases {s t : State} (h : step s = .next t) :
    (s.pending = [] ∧ t = tick s) ∨ ∃ c rest, s.pending = c :: rest ∧ exec c { s with pending := rest } = .next t := by
  unfold step at h
  split at h
  · exact .inl ⟨‹_›, by injection h with h; exact h.symm⟩
  · exact .inr ⟨_, _, ‹_›, h⟩

end Sys2Proof.Machine
end

