-- ==== Sys2Proof/Laws/Dispatch.lean ====
section
/-! SUPPORT. The three shapes of a command: a request of a port, an event of a powered part, the restart. -/

namespace Sys2Proof.Machine

/-- A request's meaning takes the request with its own rule. -/
theorem exec_request {c : Instr} {p : Port} {k : Kind} {ps : List Byte} (h : c.request? = some (p, k, ps)) :
    ∃ body : State → Answer, ∀ s, exec c s = request p k body s := by
  cases c <;> simp only [Instr.request?, Option.some.injEq, Prod.mk.injEq, reduceCtorEq] at h <;>
    (obtain ⟨rfl, rfl, -⟩ := h; exact ⟨_, fun s => rfl⟩)

/-- A command that is no request and no restart is an event of a powered part. -/
theorem exec_event {c : Instr} (h : c.request? = none) (hr : ∀ l b, c ≠ .restart l b) :
    ∃ f : State → State, ∀ s, exec c s = event f s := by
  cases c <;> simp only [Instr.request?, reduceCtorEq] at h <;>
    first
    | (exact absurd rfl (hr _ _))
    | exact ⟨_, fun s => rfl⟩

end Sys2Proof.Machine
end

