-- ==== Sys2Proof/Laws/Frames.lean ====
section
/-! SUPPORT. The frame of every command: the parts of the state it may change. One lemma for each request's rule and each
event, and one for `exec`. -/

namespace Sys2Proof.Machine

/-- The parts of the state: its fields, without the queue. -/
inductive Part where
  | meas | store | table | pay | journal | shift | sign | intercom | notices | ports | windowMs | secondMs | powered | pending
  deriving DecidableEq, Repr

/-- Two states agree on a part. -/
def SameAt (s t : State) : Part → Prop
  | .meas => t.meas = s.meas
  | .store => t.store = s.store
  | .table => t.table = s.table
  | .pay => t.pay = s.pay
  | .journal => t.journal = s.journal
  | .shift => t.shift = s.shift
  | .sign => t.sign = s.sign
  | .intercom => t.intercom = s.intercom
  | .notices => t.notices = s.notices
  | .ports => t.ports = s.ports
  | .windowMs => t.windowMs = s.windowMs
  | .secondMs => t.secondMs = s.secondMs
  | .powered => t.powered = s.powered
  | .pending => t.pending = s.pending

/-- The second state differs from the first in the listed parts alone. -/
def ChangesOnly (l : List Part) (s t : State) : Prop := ∀ c, c ∉ l → SameAt s t c

theorem ChangesOnly.same (l : List Part) (s : State) : ChangesOnly l s s := by
  intro c _; cases c <;> rfl

theorem ChangesOnly.mono {l m : List Part} {s t : State} (h : ChangesOnly l s t) (hs : ∀ c ∈ l, c ∈ m) :
    ChangesOnly m s t := fun c hc => h c (fun hl => hc (hs c hl))

theorem ChangesOnly.trans {l : List Part} {s t u : State} (h : ChangesOnly l s t) (h2 : ChangesOnly l t u) :
    ChangesOnly l s u := by
  intro c hc
  have a := h c hc
  have b := h2 c hc
  cases c <;> exact Eq.trans b a

theorem setStopInterlock_frame (v : Nat) (s : State) : ChangesOnly [.meas] s (setStopInterlock v s).state := by
  simp only [setStopInterlock]
  (repeat' split) <;> (intro c hc; cases c <;> first | rfl | (simp at hc; done) | simp [SameAt])

theorem calBegin_frame (v : Nat) (s : State) : ChangesOnly [.meas] s (calBegin v s).state := by
  simp only [calBegin, calBeginFree]
  (repeat' split) <;> (intro c hc; cases c <;> first | rfl | (simp at hc; done) | simp [SameAt])

theorem calMark_frame (s : State) : ChangesOnly [.meas, .notices] s (calMark s).state := by
  simp only [calMark]
  (repeat' split) <;> (intro c hc; cases c <;> first | rfl | (simp at hc; done) | simp [SameAt])

theorem calAbort_frame (s : State) : ChangesOnly [.meas] s (calAbort s).state := by
  simp only [calAbort]
  (repeat' split) <;> (intro c hc; cases c <;> first | rfl | (simp at hc; done) | simp [SameAt])

theorem calAdopt_frame (v : Nat) (s : State) : ChangesOnly [.meas, .journal] s (calAdopt v s).state := by
  simp only [calAdopt, calAdoptTaken]
  (repeat' split) <;> (intro c hc; cases c <;> first | rfl | (simp at hc; done) | simp [SameAt])

theorem tariffBegin_frame (s : State) : ChangesOnly [.store] s (tariffBegin s).state := by
  simp only [tariffBegin]
  (repeat' split) <;> (intro c hc; cases c <;> first | rfl | (simp at hc; done) | simp [SameAt])

theorem tariffItem_frame (k n f : Byte) (w : BitVec 176) (s : State) : ChangesOnly [.store] s (tariffItem k n f w s).state := by
  simp only [tariffItem]
  (repeat' split) <;> (intro c hc; cases c <;> first | rfl | (simp at hc; done) | simp [SameAt])

theorem tariffCommit_frame (v : BitVec 16) (s : State) : ChangesOnly [.store] s (tariffCommit v s).state := by
  simp only [tariffCommit]
  (repeat' split) <;> (intro c hc; cases c <;> first | rfl | (simp at hc; done) | simp [SameAt])

theorem tariffRead_frame (a b c : Byte) (s : State) : ChangesOnly [] s (tariffRead a b c s).state := by
  simp only [tariffRead]
  (repeat' split) <;> (intro c hc; cases c <;> first | rfl | (simp at hc; done) | simp [SameAt])

theorem setClock_frame (v : Nat) (s : State) : ChangesOnly [.store] s (setClock v s).state := by
  simp only [setClock]
  (repeat' split) <;> (intro c hc; cases c <;> first | rfl | (simp at hc; done) | simp [SameAt])

theorem setHoliday_frame (v : Byte) (s : State) : ChangesOnly [.store] s (setHoliday v s).state := by
  simp only [setHoliday]
  (repeat' split) <;> (intro c hc; cases c <;> first | rfl | (simp at hc; done) | simp [SameAt])

theorem zoneReport_frame (v : BitVec 16) (q : Byte) (s : State) : ChangesOnly [.store, .notices] s (zoneReport v q s).state := by
  simp only [zoneReport]
  (repeat' split) <;> (intro c hc; cases c <;> first | rfl | (simp at hc; done) | simp [SameAt])

theorem setZoneWatch_frame (a b : Nat) (s : State) : ChangesOnly [.store] s (setZoneWatch a b s).state := by
  simp only [setZoneWatch]
  (repeat' split) <;> (intro c hc; cases c <;> first | rfl | (simp at hc; done) | simp [SameAt])

theorem startHire_frame (v : Byte) (s : State) : ChangesOnly [.table, .sign, .intercom, .notices] s (startHire v s).state := by
  simp only [startHire, startHireTaken]
  (repeat' split) <;> (intro c hc; cases c <;> first | rfl | (simp at hc; done) | simp [SameAt])

theorem stopHire_frame (v : Byte) (s : State) : ChangesOnly [.table, .sign, .notices] s (stopHire v s).state := by
  simp only [stopHire]
  (repeat' split) <;> (intro c hc; cases c <;> first | rfl | (simp at hc; done) | simp [SameAt])

theorem resumeHire_frame (v : Byte) (s : State) : ChangesOnly [.table, .sign] s (resumeHire v s).state := by
  simp only [resumeHire]
  (repeat' split) <;> (intro c hc; cases c <;> first | rfl | (simp at hc; done) | simp [SameAt])

theorem addExtra_frame (p : Port) (a b : Byte) (n : Nat) (s : State) : ChangesOnly [.table] s (addExtra p a b n s).state := by
  simp only [addExtra, addExtraScreened]
  (repeat' split) <;> (intro c hc; cases c <;> first | rfl | (simp at hc; done) | simp [SameAt])

theorem pinTariff_frame (a b : Byte) (s : State) : ChangesOnly [.table] s (pinTariff a b s).state := by
  simp only [pinTariff]
  (repeat' split) <;> (intro c hc; cases c <;> first | rfl | (simp at hc; done) | simp [SameAt])

theorem readParty_frame (v : Byte) (s : State) : ChangesOnly [] s (readParty v s).state := by
  simp only [readParty]
  (repeat' split) <;> (intro c hc; cases c <;> first | rfl | (simp at hc; done) | simp [SameAt])

theorem setDuty_frame (v : Byte) (s : State) : ChangesOnly [.table, .sign] s (setDuty v s).state := by
  simp only [setDuty]
  (repeat' split) <;> (intro c hc; cases c <;> first | rfl | (simp at hc; done) | simp [SameAt])

theorem setOnCall_frame (v : Byte) (s : State) : ChangesOnly [.table, .sign] s (setOnCall v s).state := by
  simp only [setOnCall]
  (repeat' split) <;> (intro c hc; cases c <;> first | rfl | (simp at hc; done) | simp [SameAt])

theorem setSeatLimit_frame (n : Nat) (s : State) : ChangesOnly [.table, .sign] s (setSeatLimit n s).state := by
  simp only [setSeatLimit]
  (repeat' split) <;> (intro c hc; cases c <;> first | rfl | (simp at hc; done) | simp [SameAt])

theorem payOpen_frame (v : Byte) (s : State) : ChangesOnly [.table, .pay, .sign, .notices] s (payOpen v s).state := by
  simp only [payOpen, payOpenTaken]
  (repeat' split) <;> (intro c hc; cases c <;> first | rfl | (simp at hc; done) | simp [SameAt])

theorem payTip_frame (a b c : Nat) (s : State) : ChangesOnly [.table, .pay] s (payTip a b c s).state := by
  simp only [payTip, payTipTaken]
  (repeat' split) <;> (intro c hc; cases c <;> first | rfl | (simp at hc; done) | simp [SameAt])

theorem pinState_frame (v : Byte) (s : State) : ChangesOnly [.pay, .intercom] s (pinState v s).state := by
  simp only [pinState]
  (repeat' split) <;> (intro c hc; cases c <;> first | rfl | (simp at hc; done) | simp [SameAt])

theorem setPinGuard_frame (n : Nat) (s : State) : ChangesOnly [.pay] s (setPinGuard n s).state := by
  simp only [setPinGuard]
  (repeat' split) <;> (intro c hc; cases c <;> first | rfl | (simp at hc; done) | simp [SameAt])

theorem applyOpen_frame (x : Session) (y : Party) (o : Bool) (a r : Nat) (s : State) :
    ChangesOnly [.table, .pay, .journal, .sign, .intercom, .notices] s (applyOpen x y o a r s).state := by
  intro c hc; cases c <;> first | rfl | (simp at hc; done) | simp [SameAt, applyOpen]

theorem orphanOpen_frame (x : Session) (o : Bool) (a r : Nat) (s : State) :
    ChangesOnly [.table, .pay, .journal, .shift, .sign, .intercom, .notices] s (orphanOpen x o a r s).state := by
  unfold orphanOpen
  split <;> (intro c hc; cases c <;> first | rfl | (simp at hc; done) | simp [SameAt])

theorem declineOpen_frame (x : Session) (d : Bool) (s : State) :
    ChangesOnly [.table, .pay, .shift, .sign, .intercom, .notices] s (declineOpen x d s).state := by
  intro c hc; cases c <;> first | rfl | (simp at hc; done) | simp [SameAt, declineOpen]

theorem applyLate_frame (it : RecentSession) (y : Party) (o : Bool) (a r : Nat) (s : State) :
    ChangesOnly [.table, .pay, .journal, .sign, .notices] s (applyLate it y o a r s).state := by
  intro c hc; cases c <;> first | rfl | (simp at hc; done) | simp [SameAt, applyLate]

theorem orphanLate_frame (f : Option RecentSession) (n : Nat) (o : Bool) (a r : Nat) (s : State) :
    ChangesOnly [.pay, .journal, .shift, .notices] s (orphanLate f n o a r s).state := by
  unfold orphanLate
  (repeat' split) <;> (intro c hc; cases c <;> first | rfl | (simp at hc; done) | simp [SameAt])

theorem approveOpen_frame (x : Session) (o : Bool) (a r : Nat) (s : State) :
    ChangesOnly [.table, .pay, .journal, .shift, .sign, .intercom, .notices] s (approveOpen x o a r s).state := by
  unfold approveOpen
  split
  · exact orphanOpen_frame _ _ _ _ _
  · split
    · exact (applyOpen_frame _ _ _ _ _ _).mono (by decide)
    · exact orphanOpen_frame _ _ _ _ _

theorem approveLate_frame (n h : Nat) (o : Bool) (a r : Nat) (s : State) :
    ChangesOnly [.table, .pay, .journal, .shift, .sign, .intercom, .notices] s (approveLate n h o a r s).state := by
  unfold approveLate
  split
  · exact (orphanLate_frame _ _ _ _ _ _).mono (by decide)
  · split
    · exact (applyLate_frame _ _ _ _ _ _).mono (by decide)
    · exact (orphanLate_frame _ _ _ _ _ _).mono (by decide)

theorem approval_frame (n h : Nat) (o : Bool) (a r : Nat) (s : State) :
    ChangesOnly [.table, .pay, .journal, .shift, .sign, .intercom, .notices] s (approval n h o a r s).state := by
  unfold approval
  split
  · exact ChangesOnly.same _ _
  · split
    · exact approveOpen_frame _ _ _ _ _
    · exact approveLate_frame _ _ _ _ _ _

theorem decline_frame (n h : Nat) (d : Bool) (s : State) :
    ChangesOnly [.table, .pay, .journal, .shift, .sign, .intercom, .notices] s (decline n h d s).state := by
  unfold decline
  split
  · exact (declineOpen_frame _ _ _).mono (by decide)
  · exact ChangesOnly.same _ _

theorem payResult_frame (a b : Nat) (o : Byte) (c d : Nat) (s : State) :
    ChangesOnly [.table, .pay, .journal, .shift, .sign, .intercom, .notices] s (payResult a b o c d s).state := by
  unfold payResult
  split
  · exact ChangesOnly.same _ _
  · split
    · exact ChangesOnly.same _ _
    · exact approval_frame _ _ _ _ _ _
    · exact approval_frame _ _ _ _ _ _
    · exact decline_frame _ _ _ _
    · exact decline_frame _ _ _ _

theorem cashSettle_frame (v : Byte) (n : Nat) (s : State) : ChangesOnly [.table, .journal, .sign] s (cashSettle v n s).state := by
  simp only [cashSettle, cashTaken]
  (repeat' split) <;> (intro c hc; cases c <;> first | rfl | (simp at hc; done) | simp [SameAt])

theorem journalRead_frame (n : Nat) (s : State) : ChangesOnly [] s (journalRead n s).state := by
  simp only [journalRead]
  (repeat' split) <;> (intro c hc; cases c <;> first | rfl | (simp at hc; done) | simp [SameAt])

theorem journalAck_frame (n : Nat) (s : State) : ChangesOnly [.journal] s (journalAck n s).state := by
  simp only [journalAck]
  (repeat' split) <;> (intro c hc; cases c <;> first | rfl | (simp at hc; done) | simp [SameAt])

theorem shiftOpen_frame (n : Nat) (s : State) : ChangesOnly [.shift, .sign] s (shiftOpen n s).state := by
  simp only [shiftOpen]
  (repeat' split) <;> (intro c hc; cases c <;> first | rfl | (simp at hc; done) | simp [SameAt])

theorem shiftClose_frame (s : State) : ChangesOnly [.shift, .journal, .table, .sign] s (shiftClose s).state := by
  simp only [shiftClose]
  (repeat' split) <;> (intro c hc; cases c <;> first | rfl | (simp at hc; done) | simp [SameAt])

theorem shiftPreview_frame (s : State) : ChangesOnly [] s (shiftPreview s).state := by
  simp only [shiftPreview]
  (repeat' split) <;> (intro c hc; cases c <;> first | rfl | (simp at hc; done) | simp [SameAt])

theorem setCommission_frame (n : Nat) (s : State) : ChangesOnly [.shift] s (setCommission n s).state := by
  simp only [setCommission]
  (repeat' split) <;> (intro c hc; cases c <;> first | rfl | (simp at hc; done) | simp [SameAt])

theorem setOfflineCap_frame (n : Nat) (s : State) : ChangesOnly [.shift] s (setOfflineCap n s).state := by
  simp only [setOfflineCap]
  (repeat' split) <;> (intro c hc; cases c <;> first | rfl | (simp at hc; done) | simp [SameAt])

theorem setTipCap_frame (n : Nat) (s : State) : ChangesOnly [.shift] s (setTipCap n s).state := by
  simp only [setTipCap]
  (repeat' split) <;> (intro c hc; cases c <;> first | rfl | (simp at hc; done) | simp [SameAt])

theorem setHoldLimit_frame (n : Nat) (s : State) : ChangesOnly [.shift] s (setHoldLimit n s).state := by
  simp only [setHoldLimit]
  (repeat' split) <;> (intro c hc; cases c <;> first | rfl | (simp at hc; done) | simp [SameAt])

theorem setBrightness_frame (a b : Nat) (s : State) : ChangesOnly [.sign] s (setBrightness a b s).state := by
  simp only [setBrightness]
  (repeat' split) <;> (intro c hc; cases c <;> first | rfl | (simp at hc; done) | simp [SameAt])

theorem lampTest_frame (a b c d : Byte) (s : State) : ChangesOnly [.sign] s (lampTest a b c d s).state := by
  simp only [lampTest]
  (repeat' split) <;> (intro c hc; cases c <;> first | rfl | (simp at hc; done) | simp [SameAt])

theorem lampClear_frame (s : State) : ChangesOnly [.sign] s (lampClear s).state := by
  simp only [lampClear]
  (repeat' split) <;> (intro c hc; cases c <;> first | rfl | (simp at hc; done) | simp [SameAt])

theorem setPathGain_frame (v : Byte) (a b : Nat) (s : State) : ChangesOnly [.intercom] s (setPathGain v a b s).state := by
  simp only [setPathGain]
  (repeat' split) <;> (intro c hc; cases c <;> first | rfl | (simp at hc; done) | simp [SameAt])

theorem setIntercomMode_frame (v : Byte) (s : State) : ChangesOnly [.intercom, .notices] s (setIntercomMode v s).state := by
  simp only [setIntercomMode]
  (repeat' split) <;> (intro c hc; cases c <;> first | rfl | (simp at hc; done) | simp [SameAt])

theorem setIntercomMute_frame (a b : Byte) (s : State) : ChangesOnly [.intercom] s (setIntercomMute a b s).state := by
  simp only [setIntercomMute]
  (repeat' split) <;> (intro c hc; cases c <;> first | rfl | (simp at hc; done) | simp [SameAt])

theorem setTalkOverride_frame (v : Byte) (s : State) : ChangesOnly [.intercom] s (setTalkOverride v s).state := by
  simp only [setTalkOverride]
  (repeat' split) <;> (intro c hc; cases c <;> first | rfl | (simp at hc; done) | simp [SameAt])

theorem playTone_frame (a b : Byte) (s : State) : ChangesOnly [.intercom] s (playTone a b s).state := by
  simp only [playTone]
  (repeat' split) <;> (intro c hc; cases c <;> first | rfl | (simp at hc; done) | simp [SameAt])

theorem readNotices_frame (p : Port) (v : Byte) (s : State) : ChangesOnly [.notices] s (readNotices p v s).state := by
  simp only [readNotices]
  (repeat' split) <;> (intro c hc; cases c <;> first | rfl | (simp at hc; done) | simp [SameAt])

theorem clearNotices_frame (p : Port) (w : BitVec 32) (s : State) : ChangesOnly [.notices] s (clearNotices p w s).state := by
  simp only [clearNotices]
  (repeat' split) <;> (intro c hc; cases c <;> first | rfl | (simp at hc; done) | simp [SameAt])

theorem setNoticeEnable_frame (p : Port) (w : BitVec 32) (s : State) : ChangesOnly [.notices] s (setNoticeEnable p w s).state := by
  simp only [setNoticeEnable]
  (repeat' split) <;> (intro c hc; cases c <;> first | rfl | (simp at hc; done) | simp [SameAt])

theorem setRoute_frame (a b : Byte) (s : State) : ChangesOnly [.notices] s (setRoute a b s).state := by
  simp only [setRoute]
  (repeat' split) <;> (intro c hc; cases c <;> first | rfl | (simp at hc; done) | simp [SameAt])

theorem postMessage_frame (p : Port) (v : Byte) (l : List Byte) (s : State) : ChangesOnly [.notices] s (postMessage p v l s).state := by
  simp only [postMessage]
  (repeat' split) <;> (intro c hc; cases c <;> first | rfl | (simp at hc; done) | simp [SameAt])

theorem takeMessage_frame (p : Port) (s : State) : ChangesOnly [.notices] s (takeMessage p s).state := by
  simp only [takeMessage]
  (repeat' split) <;> (intro c hc; cases c <;> first | rfl | (simp at hc; done) | simp [SameAt])

theorem frameDiscarded_frame (p : Port) (l : List Byte) (s : State) : ChangesOnly [.ports] s (frameDiscarded p l s) := by
  simp only [frameDiscarded]
  (repeat' split) <;> (intro c hc; cases c <;> first | rfl | (simp at hc; done) | simp [SameAt])

theorem formatReply_frame (p : Port) (l : List Byte) (s : State) : ChangesOnly [.ports] s (formatReply p l s) := by
  simp only [formatReply]
  (repeat' split) <;> (intro c hc; cases c <;> first | rfl | (simp at hc; done) | simp [SameAt])

theorem replyRead_frame (p : Port) (n : Nat) (s : State) : ChangesOnly [.ports] s (replyRead p n s) := by
  simp only [replyRead]
  (repeat' split) <;> (intro c hc; cases c <;> first | rfl | (simp at hc; done) | simp [SameAt])

theorem distancePulse_frame (s : State) : ChangesOnly [.meas] s (distancePulse s) := by
  simp only [distancePulse]
  (repeat' split) <;> (intro c hc; cases c <;> first | rfl | (simp at hc; done) | simp [SameAt])

theorem sealClose_frame (s : State) : ChangesOnly [.meas] s (sealClose s) := by
  simp only [sealClose]
  (repeat' split) <;> (intro c hc; cases c <;> first | rfl | (simp at hc; done) | simp [SameAt])

theorem sealOpen_frame (s : State) : ChangesOnly [.meas] s (sealOpen s) := by
  simp only [sealOpen]
  (repeat' split) <;> (intro c hc; cases c <;> first | rfl | (simp at hc; done) | simp [SameAt])

theorem zoneWatchExpiry_frame (s : State) : ChangesOnly [.store, .notices] s (zoneWatchExpiry s) := by
  simp only [zoneWatchExpiry]
  (repeat' split) <;> (intro c hc; cases c <;> first | rfl | (simp at hc; done) | simp [SameAt])

theorem sessionExpiry_frame (s : State) : ChangesOnly [.pay, .shift, .table, .sign, .intercom, .notices] s (sessionExpiry s) := by
  simp only [sessionExpiry]
  (repeat' split) <;> (intro c hc; cases c <;> first | rfl | (simp at hc; done) | simp [SameAt])

theorem pinGuardExpiry_frame (s : State) : ChangesOnly [.pay, .intercom] s (pinGuardExpiry s) := by
  simp only [pinGuardExpiry]
  (repeat' split) <;> (intro c hc; cases c <;> first | rfl | (simp at hc; done) | simp [SameAt])

theorem testTimerExpiry_frame (s : State) : ChangesOnly [.sign] s (testTimerExpiry s) := by
  simp only [testTimerExpiry]
  (repeat' split) <;> (intro c hc; cases c <;> first | rfl | (simp at hc; done) | simp [SameAt])

theorem lampPhaseChange_frame (s : State) : ChangesOnly [.sign] s (lampPhaseChange s) := by
  simp only [lampPhaseChange]
  (repeat' split) <;> (intro c hc; cases c <;> first | rfl | (simp at hc; done) | simp [SameAt])

theorem releaseTimerExpiry_frame (q : AudioPath) (s : State) : ChangesOnly [.intercom] s (releaseTimerExpiry q s) := by
  simp only [releaseTimerExpiry]
  (repeat' split) <;> (intro c hc; cases c <;> first | rfl | (simp at hc; done) | simp [SameAt])

theorem talkKeyPress_frame (x : TalkSide) (s : State) : ChangesOnly [.intercom, .notices] s (talkKeyPress x s) := by
  simp only [talkKeyPress]
  (repeat' split) <;> (intro c hc; cases c <;> first | rfl | (simp at hc; done) | simp [SameAt])

theorem talkKeyRelease_frame (x : TalkSide) (s : State) : ChangesOnly [.intercom, .notices] s (talkKeyRelease x s) := by
  simp only [talkKeyRelease]
  (repeat' split) <;> (intro c hc; cases c <;> first | rfl | (simp at hc; done) | simp [SameAt])

theorem floorTimerExpiry_frame (s : State) : ChangesOnly [.intercom, .notices] s (floorTimerExpiry s) := by
  simp only [floorTimerExpiry]
  (repeat' split) <;> (intro c hc; cases c <;> first | rfl | (simp at hc; done) | simp [SameAt])

theorem codecFrame_frame (x : CodecSide) (m : BitVec 16) (s : State) : ChangesOnly [.intercom] s (codecFrame x m s) := by
  simp only [codecFrame]
  (repeat' split) <;> (intro c hc; cases c <;> first | rfl | (simp at hc; done) | simp [SameAt])

theorem appendWriteStart_frame (s : State) : ChangesOnly [.journal] s (appendWriteStart s) := by
  simp only [appendWriteStart]
  (repeat' split) <;> (intro c hc; cases c <;> first | rfl | (simp at hc; done) | simp [SameAt])

@[simp] theorem State.tryActivate_frame (s : State) : ChangesOnly [.store, .journal] s s.tryActivate := by
  unfold State.tryActivate
  (repeat' split) <;> (intro c hc; cases c <;> first | rfl | (simp at hc; done))

theorem windowClose_frame (x : LampSense) (s : State) :
    ChangesOnly [.meas, .store, .table, .journal, .shift, .sign, .intercom, .notices] s (windowClose x s) := by
  have h : ChangesOnly [.meas, .store, .table, .journal, .shift, .sign, .intercom, .notices] s (s.closed x) := by
    intro c hc; cases c <;> first | rfl | (simp at hc; done)
  have h2 := h.trans ((State.tryActivate_frame (s.closed x)).mono (by decide))
  refine h2.trans ?_
  intro c hc; cases c <;> first | (simp at hc; done) | simp [SameAt, windowClose]

theorem toneEnd_frame (x : CodecSide) (m : BitVec 16) (s : State) : ChangesOnly [.intercom] s (toneEnd x m s) := by
  unfold toneEnd
  split
  · exact codecFrame_frame _ _ _
  · exact ChangesOnly.same _ _

theorem State.afterStored_frame (s : State) (e : Entry) :
    ChangesOnly [.meas, .store, .table, .shift, .sign, .notices] s (s.afterStored e) := by
  unfold State.afterStored
  split <;> (intro c hc; cases c <;> first | rfl | (simp at hc; done) | simp [SameAt])

theorem appendComplete_frame (s : State) :
    ChangesOnly [.journal, .meas, .store, .table, .shift, .sign, .notices] s (appendComplete s) := by
  unfold appendComplete State.storeHead
  cases s.journal.flying with
  | none => exact ChangesOnly.same _ _
  | some b =>
    refine ChangesOnly.trans (t := { s with journal := s.journal.complete (storedEntry s.journal.nextSeq s.store.now b) })
      ?_ ((State.afterStored_frame _ _).mono (by decide))
    intro c hc; cases c <;> first | rfl | (simp at hc; done)

theorem ChangesOnly.of_pending {s t : State} (h : t.pending = s.pending) :
    ChangesOnly [.meas, .store, .table, .pay, .journal, .shift, .sign, .intercom, .notices, .ports, .windowMs, .secondMs,
      .powered] s t := by
  intro c hc
  cases c <;> first | exact h | (simp at hc; done)

theorem State.firstUpdate_pending (s : State) (e : Entry) : (s.firstUpdate e).pending = s.pending := by
  unfold State.firstUpdate
  split
  · exact State.afterStored_frame s e .pending (by decide)
  · exact State.afterStored_frame s e .pending (by decide)
  · rfl

theorem State.secondUpdate_pending (s : State) (e : Entry) : (s.secondUpdate e).pending = s.pending := by
  unfold State.secondUpdate
  split
  · rfl
  · rfl
  · exact State.firstUpdate_pending s e

theorem State.storeHead_pending (s : State) {e : Entry} {t : State} (h : s.storeHead = some (e, t)) :
    t.pending = s.pending := by
  unfold State.storeHead at h
  split at h
  · cases h
  · injection h with h; injection h with _ h; exact h ▸ rfl

theorem State.cutAt_pending (s : State) (cut : PowerCut) : (s.cutAt cut).pending = s.pending := by
  cases cut
  · rfl
  all_goals
    simp only [State.cutAt]
    split
    · rfl
    · first
      | exact (State.firstUpdate_pending _ _).trans (s.storeHead_pending ‹_›)
      | exact (State.secondUpdate_pending _ _).trans (s.storeHead_pending ‹_›)

theorem powerLoss_pending (cut : PowerCut) (s : State) : (powerLoss cut s).pending = s.pending := by
  unfold powerLoss State.dropVolatile
  exact State.cutAt_pending s cut

theorem State.restoreSlot_pending (s : State) (i : Fin 4) : (s.restoreSlot i).pending = s.pending := by
  simp only [State.restoreSlot, State.restoreClosing]
  (repeat' split) <;> rfl

theorem State.restoreShift_pending (s : State) : s.restoreShift.pending = s.pending := by
  simp only [State.restoreShift]
  (repeat' split) <;> rfl

theorem restart_pending (l : InputLevels) (b : Backup) (s : State) : (restart l b s).pending = s.pending := by
  unfold restart State.restore State.firstSign State.countInterruption
  simp only [State.raise_pending, State.restoreShift_pending, State.restoreSlot_pending]
  rfl

/-! ## The frame of `exec` -/

/-- The parts that a command may change. -/
def touches : Instr → List Part
  | .readMotion _ => [.ports]
  | .setStopInterlock _ _ => [.ports, .meas]
  | .calBegin _ _ => [.ports, .meas]
  | .calMark _ => [.ports, .meas, .notices]
  | .calAbort _ => [.ports, .meas]
  | .calAdopt _ _ => [.ports, .meas, .journal]
  | .tariffBegin _ => [.ports, .store]
  | .tariffItem _ _ _ _ _ => [.ports, .store]
  | .tariffCommit _ _ => [.ports, .store]
  | .tariffRead _ _ _ _ => [.ports]
  | .setClock _ _ => [.ports, .store]
  | .setHoliday _ _ => [.ports, .store]
  | .zoneReport _ _ _ => [.ports, .store, .notices]
  | .setZoneWatch _ _ _ => [.ports, .store]
  | .tariffStatus _ => [.ports]
  | .startHire _ _ => [.ports, .table, .sign, .intercom, .notices]
  | .stopHire _ _ => [.ports, .table, .sign, .notices]
  | .resumeHire _ _ => [.ports, .table, .sign]
  | .addExtra _ _ _ _ => [.ports, .table]
  | .pinTariff _ _ _ => [.ports, .table]
  | .readParty _ _ => [.ports]
  | .listParties _ => [.ports]
  | .setDuty _ _ => [.ports, .table, .sign]
  | .setOnCall _ _ => [.ports, .table, .sign]
  | .setSeatLimit _ _ => [.ports, .table, .sign]
  | .payOpen _ _ => [.ports, .table, .pay, .sign, .notices]
  | .payTip _ _ _ _ => [.ports, .table, .pay]
  | .pinState _ _ => [.ports, .pay, .intercom]
  | .setPinGuard _ _ => [.ports, .pay]
  | .payResult _ _ _ _ _ _ => [.ports, .table, .pay, .journal, .shift, .sign, .intercom, .notices]
  | .cashSettle _ _ _ => [.ports, .table, .journal, .sign]
  | .readPayment _ => [.ports]
  | .journalRead _ _ => [.ports]
  | .journalAck _ _ => [.ports, .journal]
  | .journalStatus _ => [.ports]
  | .shiftOpen _ _ => [.ports, .shift, .sign]
  | .shiftClose _ => [.ports, .shift, .journal, .table, .sign]
  | .shiftPreview _ => [.ports]
  | .setCommission _ _ => [.ports, .shift]
  | .setOfflineCap _ _ => [.ports, .shift]
  | .setTipCap _ _ => [.ports, .shift]
  | .setHoldLimit _ _ => [.ports, .shift]
  | .readTotalizers _ => [.ports]
  | .setBrightness _ _ _ => [.ports, .sign]
  | .lampTest _ _ _ _ _ => [.ports, .sign]
  | .lampClear _ => [.ports, .sign]
  | .readSign _ => [.ports]
  | .setPathGain _ _ _ _ => [.ports, .intercom]
  | .setIntercomMode _ _ => [.ports, .intercom, .notices]
  | .setIntercomMute _ _ _ => [.ports, .intercom]
  | .setTalkOverride _ _ => [.ports, .intercom]
  | .playTone _ _ _ => [.ports, .intercom]
  | .readIntercom _ => [.ports]
  | .readNotices _ _ => [.ports, .notices]
  | .clearNotices _ _ => [.ports, .notices]
  | .setNoticeEnable _ _ => [.ports, .notices]
  | .readRoutes _ => [.ports]
  | .setRoute _ _ _ => [.ports, .notices]
  | .postMessage _ _ _ => [.ports, .notices]
  | .takeMessage _ => [.ports, .notices]
  | .frameDiscarded _ _ => [.ports]
  | .formatReply _ _ => [.ports]
  | .replyRead _ _ => [.ports]
  | .distancePulse => [.meas]
  | .windowClose _ => [.meas, .store, .table, .journal, .shift, .sign, .intercom, .notices]
  | .sealClose => [.meas]
  | .sealOpen => [.meas]
  | .clockSecond => [.store]
  | .zoneWatchExpiry => [.store, .notices]
  | .sessionExpiry => [.pay, .shift, .table, .sign, .intercom, .notices]
  | .pinGuardExpiry => [.pay, .intercom]
  | .testTimerExpiry => [.sign]
  | .lampPhaseChange => [.sign]
  | .releaseTimerExpiry _ => [.intercom]
  | .talkKeyPress _ => [.intercom, .notices]
  | .talkKeyRelease _ => [.intercom, .notices]
  | .floorTimerExpiry => [.intercom, .notices]
  | .codecFrame _ _ => [.intercom]
  | .toneEnd _ _ => [.intercom]
  | .appendWriteStart => [.journal]
  | .appendComplete => [.journal, .meas, .store, .table, .shift, .sign, .notices]
  | .powerLoss _ =>
    [.meas, .store, .table, .pay, .journal, .shift, .sign, .intercom, .notices, .ports, .windowMs, .secondMs, .powered]
  | .restart _ _ =>
    [.meas, .store, .table, .pay, .journal, .shift, .sign, .intercom, .notices, .ports, .windowMs, .secondMs, .powered]

theorem request_frame {l : List Part} {p : Port} {k : Kind} {body : State → Answer} {s t : State}
    (h : request p k body s = .next t) (hb : ChangesOnly l s (body s).state) : ChangesOnly (.ports :: l) s t := by
  have hput : ∀ (u : State) (st : Status) (res : List Byte), ChangesOnly [.ports] u (u.putReply p k.code st res) := by
    intro u st res c hc; cases c <;> first | rfl | (simp at hc; done)
  obtain ⟨-, rfl⟩ | ⟨-, -, rfl⟩ | ⟨-, -, rfl⟩ := request_cases h
  · exact ChangesOnly.same _ _
  · exact (hput _ _ _).mono (by simp)
  · exact (hb.mono (by intro c hc; simp [hc])).trans ((hput _ _ _).mono (by simp))

theorem event_frame {l : List Part} {f : State → State} {s t : State} (h : event f s = .next t)
    (hf : ChangesOnly l s (f s)) : ChangesOnly l s t := by
  obtain ⟨-, rfl⟩ | ⟨-, rfl⟩ := event_cases h
  · exact ChangesOnly.same _ _
  · exact hf

theorem execReadMotion_frame {p : Port} {s t : State} (h : execReadMotion p s = .next t) :
    ChangesOnly (touches (.readMotion p)) s t :=
  request_frame h (ChangesOnly.same _ _)

theorem execSetStopInterlock_frame {p : Port} {speed : BitVec 16} {s t : State} (h : execSetStopInterlock p speed s = .next t) :
    ChangesOnly (touches (.setStopInterlock p speed)) s t :=
  request_frame h (by apply setStopInterlock_frame)

theorem execCalBegin_frame {p : Port} {course : BitVec 16} {s t : State} (h : execCalBegin p course s = .next t) :
    ChangesOnly (touches (.calBegin p course)) s t :=
  request_frame h (by apply calBegin_frame)

theorem execCalMark_frame {p : Port} {s t : State} (h : execCalMark p s = .next t) :
    ChangesOnly (touches (.calMark p)) s t :=
  request_frame h (by apply calMark_frame)

theorem execCalAbort_frame {p : Port} {s t : State} (h : execCalAbort p s = .next t) :
    ChangesOnly (touches (.calAbort p)) s t :=
  request_frame h (by apply calAbort_frame)

theorem execCalAdopt_frame {p : Port} {ceiling : BitVec 16} {s t : State} (h : execCalAdopt p ceiling s = .next t) :
    ChangesOnly (touches (.calAdopt p ceiling)) s t :=
  request_frame h (by apply calAdopt_frame)

theorem execTariffBegin_frame {p : Port} {s t : State} (h : execTariffBegin p s = .next t) :
    ChangesOnly (touches (.tariffBegin p)) s t :=
  request_frame h (by apply tariffBegin_frame)

theorem execTariffItem_frame {p : Port} {itemKind number form : Byte} {fields : BitVec 176} {s t : State} (h : execTariffItem p itemKind number form fields s = .next t) :
    ChangesOnly (touches (.tariffItem p itemKind number form fields)) s t :=
  request_frame h (by apply tariffItem_frame)

theorem execTariffCommit_frame {p : Port} {version : BitVec 16} {s t : State} (h : execTariffCommit p version s = .next t) :
    ChangesOnly (touches (.tariffCommit p version)) s t :=
  request_frame h (by apply tariffCommit_frame)

theorem execTariffRead_frame {p : Port} {set itemKind number : Byte} {s t : State} (h : execTariffRead p set itemKind number s = .next t) :
    ChangesOnly (touches (.tariffRead p set itemKind number)) s t :=
  request_frame h (by apply tariffRead_frame)

theorem execSetClock_frame {p : Port} {value : BitVec 32} {s t : State} (h : execSetClock p value s = .next t) :
    ChangesOnly (touches (.setClock p value)) s t :=
  request_frame h (by apply setClock_frame)

theorem execSetHoliday_frame {p : Port} {value : Byte} {s t : State} (h : execSetHoliday p value s = .next t) :
    ChangesOnly (touches (.setHoliday p value)) s t :=
  request_frame h (by apply setHoliday_frame)

theorem execZoneReport_frame {p : Port} {code : BitVec 16} {quality : Byte} {s t : State} (h : execZoneReport p code quality s = .next t) :
    ChangesOnly (touches (.zoneReport p code quality)) s t :=
  request_frame h (by apply zoneReport_frame)

theorem execSetZoneWatch_frame {p : Port} {threshold limit : Byte} {s t : State} (h : execSetZoneWatch p threshold limit s = .next t) :
    ChangesOnly (touches (.setZoneWatch p threshold limit)) s t :=
  request_frame h (by apply setZoneWatch_frame)

theorem execTariffStatus_frame {p : Port} {s t : State} (h : execTariffStatus p s = .next t) :
    ChangesOnly (touches (.tariffStatus p)) s t :=
  request_frame h (ChangesOnly.same _ _)

theorem execStartHire_frame {p : Port} {pin : Byte} {s t : State} (h : execStartHire p pin s = .next t) :
    ChangesOnly (touches (.startHire p pin)) s t :=
  request_frame h (by apply startHire_frame)

theorem execStopHire_frame {p : Port} {slot : Byte} {s t : State} (h : execStopHire p slot s = .next t) :
    ChangesOnly (touches (.stopHire p slot)) s t :=
  request_frame h (by apply stopHire_frame)

theorem execResumeHire_frame {p : Port} {slot : Byte} {s t : State} (h : execResumeHire p slot s = .next t) :
    ChangesOnly (touches (.resumeHire p slot)) s t :=
  request_frame h (by apply resumeHire_frame)

theorem execAddExtra_frame {p : Port} {slot kind : Byte} {amount : BitVec 32} {s t : State} (h : execAddExtra p slot kind amount s = .next t) :
    ChangesOnly (touches (.addExtra p slot kind amount)) s t :=
  request_frame h (by apply addExtra_frame)

theorem execPinTariff_frame {p : Port} {slot tariff : Byte} {s t : State} (h : execPinTariff p slot tariff s = .next t) :
    ChangesOnly (touches (.pinTariff p slot tariff)) s t :=
  request_frame h (by apply pinTariff_frame)

theorem execReadParty_frame {p : Port} {slot : Byte} {s t : State} (h : execReadParty p slot s = .next t) :
    ChangesOnly (touches (.readParty p slot)) s t :=
  request_frame h (by apply readParty_frame)

theorem execListParties_frame {p : Port} {s t : State} (h : execListParties p s = .next t) :
    ChangesOnly (touches (.listParties p)) s t :=
  request_frame h (ChangesOnly.same _ _)

theorem execSetDuty_frame {p : Port} {value : Byte} {s t : State} (h : execSetDuty p value s = .next t) :
    ChangesOnly (touches (.setDuty p value)) s t :=
  request_frame h (by apply setDuty_frame)

theorem execSetOnCall_frame {p : Port} {value : Byte} {s t : State} (h : execSetOnCall p value s = .next t) :
    ChangesOnly (touches (.setOnCall p value)) s t :=
  request_frame h (by apply setOnCall_frame)

theorem execSetSeatLimit_frame {p : Port} {limit : Byte} {s t : State} (h : execSetSeatLimit p limit s = .next t) :
    ChangesOnly (touches (.setSeatLimit p limit)) s t :=
  request_frame h (by apply setSeatLimit_frame)

theorem execPayOpen_frame {p : Port} {slot : Byte} {s t : State} (h : execPayOpen p slot s = .next t) :
    ChangesOnly (touches (.payOpen p slot)) s t :=
  request_frame h (by apply payOpen_frame)

theorem execPayTip_frame {p : Port} {payment : BitVec 16} {hire tip : BitVec 32} {s t : State} (h : execPayTip p payment hire tip s = .next t) :
    ChangesOnly (touches (.payTip p payment hire tip)) s t :=
  request_frame h (by apply payTip_frame)

theorem execPinState_frame {p : Port} {value : Byte} {s t : State} (h : execPinState p value s = .next t) :
    ChangesOnly (touches (.pinState p value)) s t :=
  request_frame h (by apply pinState_frame)

theorem execSetPinGuard_frame {p : Port} {time : Byte} {s t : State} (h : execSetPinGuard p time s = .next t) :
    ChangesOnly (touches (.setPinGuard p time)) s t :=
  request_frame h (by apply setPinGuard_frame)

theorem execPayResult_frame {p : Port} {payment : BitVec 16} {hire : BitVec 32} {outcome : Byte} {amount reference : BitVec 32} {s t : State} (h : execPayResult p payment hire outcome amount reference s = .next t) :
    ChangesOnly (touches (.payResult p payment hire outcome amount reference)) s t :=
  request_frame h (by apply payResult_frame)

theorem execCashSettle_frame {p : Port} {slot : Byte} {amount : BitVec 32} {s t : State} (h : execCashSettle p slot amount s = .next t) :
    ChangesOnly (touches (.cashSettle p slot amount)) s t :=
  request_frame h (by apply cashSettle_frame)

theorem execReadPayment_frame {p : Port} {s t : State} (h : execReadPayment p s = .next t) :
    ChangesOnly (touches (.readPayment p)) s t :=
  request_frame h (ChangesOnly.same _ _)

theorem execJournalRead_frame {p : Port} {seq : BitVec 32} {s t : State} (h : execJournalRead p seq s = .next t) :
    ChangesOnly (touches (.journalRead p seq)) s t :=
  request_frame h (by apply journalRead_frame)

theorem execJournalAck_frame {p : Port} {seq : BitVec 32} {s t : State} (h : execJournalAck p seq s = .next t) :
    ChangesOnly (touches (.journalAck p seq)) s t :=
  request_frame h (by apply journalAck_frame)

theorem execJournalStatus_frame {p : Port} {s t : State} (h : execJournalStatus p s = .next t) :
    ChangesOnly (touches (.journalStatus p)) s t :=
  request_frame h (ChangesOnly.same _ _)

theorem execShiftOpen_frame {p : Port} {driver : BitVec 32} {s t : State} (h : execShiftOpen p driver s = .next t) :
    ChangesOnly (touches (.shiftOpen p driver)) s t :=
  request_frame h (by apply shiftOpen_frame)

theorem execShiftClose_frame {p : Port} {s t : State} (h : execShiftClose p s = .next t) :
    ChangesOnly (touches (.shiftClose p)) s t :=
  request_frame h (by apply shiftClose_frame)

theorem execShiftPreview_frame {p : Port} {s t : State} (h : execShiftPreview p s = .next t) :
    ChangesOnly (touches (.shiftPreview p)) s t :=
  request_frame h (by apply shiftPreview_frame)

theorem execSetCommission_frame {p : Port} {rate : BitVec 16} {s t : State} (h : execSetCommission p rate s = .next t) :
    ChangesOnly (touches (.setCommission p rate)) s t :=
  request_frame h (by apply setCommission_frame)

theorem execSetOfflineCap_frame {p : Port} {cap : BitVec 32} {s t : State} (h : execSetOfflineCap p cap s = .next t) :
    ChangesOnly (touches (.setOfflineCap p cap)) s t :=
  request_frame h (by apply setOfflineCap_frame)

theorem execSetTipCap_frame {p : Port} {cap : BitVec 16} {s t : State} (h : execSetTipCap p cap s = .next t) :
    ChangesOnly (touches (.setTipCap p cap)) s t :=
  request_frame h (by apply setTipCap_frame)

theorem execSetHoldLimit_frame {p : Port} {limit : BitVec 16} {s t : State} (h : execSetHoldLimit p limit s = .next t) :
    ChangesOnly (touches (.setHoldLimit p limit)) s t :=
  request_frame h (by apply setHoldLimit_frame)

theorem execReadTotalizers_frame {p : Port} {s t : State} (h : execReadTotalizers p s = .next t) :
    ChangesOnly (touches (.readTotalizers p)) s t :=
  request_frame h (ChangesOnly.same _ _)

theorem execSetBrightness_frame {p : Port} {day night : Byte} {s t : State} (h : execSetBrightness p day night s = .next t) :
    ChangesOnly (touches (.setBrightness p day night)) s t :=
  request_frame h (by apply setBrightness_frame)

theorem execLampTest_frame {p : Port} {free hired share off : Byte} {s t : State} (h : execLampTest p free hired share off s = .next t) :
    ChangesOnly (touches (.lampTest p free hired share off)) s t :=
  request_frame h (by apply lampTest_frame)

theorem execLampClear_frame {p : Port} {s t : State} (h : execLampClear p s = .next t) :
    ChangesOnly (touches (.lampClear p)) s t :=
  request_frame h (by apply lampClear_frame)

theorem execReadSign_frame {p : Port} {s t : State} (h : execReadSign p s = .next t) :
    ChangesOnly (touches (.readSign p)) s t :=
  request_frame h (ChangesOnly.same _ _)

theorem execSetPathGain_frame {p : Port} {path : Byte} {gain delay : BitVec 16} {s t : State} (h : execSetPathGain p path gain delay s = .next t) :
    ChangesOnly (touches (.setPathGain p path gain delay)) s t :=
  request_frame h (by apply setPathGain_frame)

theorem execSetIntercomMode_frame {p : Port} {mode : Byte} {s t : State} (h : execSetIntercomMode p mode s = .next t) :
    ChangesOnly (touches (.setIntercomMode p mode)) s t :=
  request_frame h (by apply setIntercomMode_frame)

theorem execSetIntercomMute_frame {p : Port} {mute privacy : Byte} {s t : State} (h : execSetIntercomMute p mute privacy s = .next t) :
    ChangesOnly (touches (.setIntercomMute p mute privacy)) s t :=
  request_frame h (by apply setIntercomMute_frame)

theorem execSetTalkOverride_frame {p : Port} {value : Byte} {s t : State} (h : execSetTalkOverride p value s = .next t) :
    ChangesOnly (touches (.setTalkOverride p value)) s t :=
  request_frame h (by apply setTalkOverride_frame)

theorem execPlayTone_frame {p : Port} {tone speaker : Byte} {s t : State} (h : execPlayTone p tone speaker s = .next t) :
    ChangesOnly (touches (.playTone p tone speaker)) s t :=
  request_frame h (by apply playTone_frame)

theorem execReadIntercom_frame {p : Port} {s t : State} (h : execReadIntercom p s = .next t) :
    ChangesOnly (touches (.readIntercom p)) s t :=
  request_frame h (ChangesOnly.same _ _)

theorem execReadNotices_frame {p : Port} {option : Byte} {s t : State} (h : execReadNotices p option s = .next t) :
    ChangesOnly (touches (.readNotices p option)) s t :=
  request_frame h (by apply readNotices_frame)

theorem execClearNotices_frame {p : Port} {sources : BitVec 32} {s t : State} (h : execClearNotices p sources s = .next t) :
    ChangesOnly (touches (.clearNotices p sources)) s t :=
  request_frame h (by apply clearNotices_frame)

theorem execSetNoticeEnable_frame {p : Port} {sources : BitVec 32} {s t : State} (h : execSetNoticeEnable p sources s = .next t) :
    ChangesOnly (touches (.setNoticeEnable p sources)) s t :=
  request_frame h (by apply setNoticeEnable_frame)

theorem execReadRoutes_frame {p : Port} {s t : State} (h : execReadRoutes p s = .next t) :
    ChangesOnly (touches (.readRoutes p)) s t :=
  request_frame h (ChangesOnly.same _ _)

theorem execSetRoute_frame {p : Port} {source ports : Byte} {s t : State} (h : execSetRoute p source ports s = .next t) :
    ChangesOnly (touches (.setRoute p source ports)) s t :=
  request_frame h (by apply setRoute_frame)

theorem execPostMessage_frame {p : Port} {target : Byte} {text : List Byte} {s t : State} (h : execPostMessage p target text s = .next t) :
    ChangesOnly (touches (.postMessage p target text)) s t :=
  request_frame h (by apply postMessage_frame)

theorem execTakeMessage_frame {p : Port} {s t : State} (h : execTakeMessage p s = .next t) :
    ChangesOnly (touches (.takeMessage p)) s t :=
  request_frame h (by apply takeMessage_frame)

theorem execFrameDiscarded_frame {p : Port} {received : List Byte} {s t : State} (h : execFrameDiscarded p received s = .next t) :
    ChangesOnly (touches (.frameDiscarded p received)) s t :=
  event_frame h (by apply frameDiscarded_frame)

theorem execFormatReply_frame {p : Port} {received : List Byte} {s t : State} (h : execFormatReply p received s = .next t) :
    ChangesOnly (touches (.formatReply p received)) s t :=
  event_frame h (by apply formatReply_frame)

theorem execReplyRead_frame {p : Port} {clocked : Nat} {s t : State} (h : execReplyRead p clocked s = .next t) :
    ChangesOnly (touches (.replyRead p clocked)) s t :=
  event_frame h (by apply replyRead_frame)

theorem execDistancePulse_frame {s t : State} (h : execDistancePulse s = .next t) :
    ChangesOnly (touches (.distancePulse)) s t :=
  event_frame h (by apply distancePulse_frame)

theorem execWindowClose_frame {sense : LampSense} {s t : State} (h : execWindowClose sense s = .next t) :
    ChangesOnly (touches (.windowClose sense)) s t :=
  event_frame h (by apply windowClose_frame)

theorem execSealClose_frame {s t : State} (h : execSealClose s = .next t) :
    ChangesOnly (touches (.sealClose)) s t :=
  event_frame h (by apply sealClose_frame)

theorem execSealOpen_frame {s t : State} (h : execSealOpen s = .next t) :
    ChangesOnly (touches (.sealOpen)) s t :=
  event_frame h (by apply sealOpen_frame)

theorem execClockSecond_frame {s t : State} (h : execClockSecond s = .next t) :
    ChangesOnly (touches (.clockSecond)) s t :=
  event_frame h (by intro c hc; cases c <;> first | rfl | (simp [touches] at hc; done))

theorem execZoneWatchExpiry_frame {s t : State} (h : execZoneWatchExpiry s = .next t) :
    ChangesOnly (touches (.zoneWatchExpiry)) s t :=
  event_frame h (by apply zoneWatchExpiry_frame)

theorem execSessionExpiry_frame {s t : State} (h : execSessionExpiry s = .next t) :
    ChangesOnly (touches (.sessionExpiry)) s t :=
  event_frame h (by apply sessionExpiry_frame)

theorem execPinGuardExpiry_frame {s t : State} (h : execPinGuardExpiry s = .next t) :
    ChangesOnly (touches (.pinGuardExpiry)) s t :=
  event_frame h (by apply pinGuardExpiry_frame)

theorem execTestTimerExpiry_frame {s t : State} (h : execTestTimerExpiry s = .next t) :
    ChangesOnly (touches (.testTimerExpiry)) s t :=
  event_frame h (by apply testTimerExpiry_frame)

theorem execLampPhaseChange_frame {s t : State} (h : execLampPhaseChange s = .next t) :
    ChangesOnly (touches (.lampPhaseChange)) s t :=
  event_frame h (by apply lampPhaseChange_frame)

theorem execReleaseTimerExpiry_frame {path : AudioPath} {s t : State} (h : execReleaseTimerExpiry path s = .next t) :
    ChangesOnly (touches (.releaseTimerExpiry path)) s t :=
  event_frame h (by apply releaseTimerExpiry_frame)

theorem execTalkKeyPress_frame {side : TalkSide} {s t : State} (h : execTalkKeyPress side s = .next t) :
    ChangesOnly (touches (.talkKeyPress side)) s t :=
  event_frame h (by apply talkKeyPress_frame)

theorem execTalkKeyRelease_frame {side : TalkSide} {s t : State} (h : execTalkKeyRelease side s = .next t) :
    ChangesOnly (touches (.talkKeyRelease side)) s t :=
  event_frame h (by apply talkKeyRelease_frame)

theorem execFloorTimerExpiry_frame {s t : State} (h : execFloorTimerExpiry s = .next t) :
    ChangesOnly (touches (.floorTimerExpiry)) s t :=
  event_frame h (by apply floorTimerExpiry_frame)

theorem execCodecFrame_frame {port : CodecSide} {mic : BitVec 16} {s t : State} (h : execCodecFrame port mic s = .next t) :
    ChangesOnly (touches (.codecFrame port mic)) s t :=
  event_frame h (by apply codecFrame_frame)

theorem execToneEnd_frame {port : CodecSide} {mic : BitVec 16} {s t : State} (h : execToneEnd port mic s = .next t) :
    ChangesOnly (touches (.toneEnd port mic)) s t :=
  event_frame h (by apply toneEnd_frame)

theorem execAppendWriteStart_frame {s t : State} (h : execAppendWriteStart s = .next t) :
    ChangesOnly (touches (.appendWriteStart)) s t :=
  event_frame h (by apply appendWriteStart_frame)

theorem execAppendComplete_frame {s t : State} (h : execAppendComplete s = .next t) :
    ChangesOnly (touches (.appendComplete)) s t :=
  event_frame h (by apply appendComplete_frame)

theorem execPowerLoss_frame {cut : PowerCut} {s t : State} (h : execPowerLoss cut s = .next t) :
    ChangesOnly (touches (.powerLoss cut)) s t :=
  event_frame h (ChangesOnly.of_pending (powerLoss_pending _ _))

theorem execRestart_frame {levels : InputLevels} {backup : Backup} {s t : State}
    (h : execRestart levels backup s = .next t) :
    ChangesOnly (touches (.restart levels backup)) s t :=
  by injection h with h; subst h; exact ChangesOnly.of_pending (restart_pending _ _ _)

/-- A request's rule leaves the port buffers to the reply. -/
theorem exec_request_ports {c : Instr} {p : Port} {k : Kind} {ps : List Byte} (h : c.request? = some (p, k, ps)) :
    ∃ body : State → Answer, ∀ s, exec c s = request p k body s ∧ (body s).state.ports = s.ports := by
  cases c <;> simp only [Instr.request?, Option.some.injEq, Prod.mk.injEq, reduceCtorEq] at h <;> obtain ⟨rfl, rfl, -⟩ := h
  case readMotion => exact ⟨_, fun s => ⟨rfl, rfl⟩⟩
  case setStopInterlock => exact ⟨_, fun s => ⟨rfl, (show ChangesOnly _ _ _ by apply setStopInterlock_frame) .ports (by decide)⟩⟩
  case calBegin => exact ⟨_, fun s => ⟨rfl, (show ChangesOnly _ _ _ by apply calBegin_frame) .ports (by decide)⟩⟩
  case calMark => exact ⟨_, fun s => ⟨rfl, (show ChangesOnly _ _ _ by apply calMark_frame) .ports (by decide)⟩⟩
  case calAbort => exact ⟨_, fun s => ⟨rfl, (show ChangesOnly _ _ _ by apply calAbort_frame) .ports (by decide)⟩⟩
  case calAdopt => exact ⟨_, fun s => ⟨rfl, (show ChangesOnly _ _ _ by apply calAdopt_frame) .ports (by decide)⟩⟩
  case tariffBegin => exact ⟨_, fun s => ⟨rfl, (show ChangesOnly _ _ _ by apply tariffBegin_frame) .ports (by decide)⟩⟩
  case tariffItem => exact ⟨_, fun s => ⟨rfl, (show ChangesOnly _ _ _ by apply tariffItem_frame) .ports (by decide)⟩⟩
  case tariffCommit => exact ⟨_, fun s => ⟨rfl, (show ChangesOnly _ _ _ by apply tariffCommit_frame) .ports (by decide)⟩⟩
  case tariffRead => exact ⟨_, fun s => ⟨rfl, (show ChangesOnly _ _ _ by apply tariffRead_frame) .ports (by decide)⟩⟩
  case setClock => exact ⟨_, fun s => ⟨rfl, (show ChangesOnly _ _ _ by apply setClock_frame) .ports (by decide)⟩⟩
  case setHoliday => exact ⟨_, fun s => ⟨rfl, (show ChangesOnly _ _ _ by apply setHoliday_frame) .ports (by decide)⟩⟩
  case zoneReport => exact ⟨_, fun s => ⟨rfl, (show ChangesOnly _ _ _ by apply zoneReport_frame) .ports (by decide)⟩⟩
  case setZoneWatch => exact ⟨_, fun s => ⟨rfl, (show ChangesOnly _ _ _ by apply setZoneWatch_frame) .ports (by decide)⟩⟩
  case tariffStatus => exact ⟨_, fun s => ⟨rfl, rfl⟩⟩
  case startHire => exact ⟨_, fun s => ⟨rfl, (show ChangesOnly _ _ _ by apply startHire_frame) .ports (by decide)⟩⟩
  case stopHire => exact ⟨_, fun s => ⟨rfl, (show ChangesOnly _ _ _ by apply stopHire_frame) .ports (by decide)⟩⟩
  case resumeHire => exact ⟨_, fun s => ⟨rfl, (show ChangesOnly _ _ _ by apply resumeHire_frame) .ports (by decide)⟩⟩
  case addExtra => exact ⟨_, fun s => ⟨rfl, (show ChangesOnly _ _ _ by apply addExtra_frame) .ports (by decide)⟩⟩
  case pinTariff => exact ⟨_, fun s => ⟨rfl, (show ChangesOnly _ _ _ by apply pinTariff_frame) .ports (by decide)⟩⟩
  case readParty => exact ⟨_, fun s => ⟨rfl, (show ChangesOnly _ _ _ by apply readParty_frame) .ports (by decide)⟩⟩
  case listParties => exact ⟨_, fun s => ⟨rfl, rfl⟩⟩
  case setDuty => exact ⟨_, fun s => ⟨rfl, (show ChangesOnly _ _ _ by apply setDuty_frame) .ports (by decide)⟩⟩
  case setOnCall => exact ⟨_, fun s => ⟨rfl, (show ChangesOnly _ _ _ by apply setOnCall_frame) .ports (by decide)⟩⟩
  case setSeatLimit => exact ⟨_, fun s => ⟨rfl, (show ChangesOnly _ _ _ by apply setSeatLimit_frame) .ports (by decide)⟩⟩
  case payOpen => exact ⟨_, fun s => ⟨rfl, (show ChangesOnly _ _ _ by apply payOpen_frame) .ports (by decide)⟩⟩
  case payTip => exact ⟨_, fun s => ⟨rfl, (show ChangesOnly _ _ _ by apply payTip_frame) .ports (by decide)⟩⟩
  case pinState => exact ⟨_, fun s => ⟨rfl, (show ChangesOnly _ _ _ by apply pinState_frame) .ports (by decide)⟩⟩
  case setPinGuard => exact ⟨_, fun s => ⟨rfl, (show ChangesOnly _ _ _ by apply setPinGuard_frame) .ports (by decide)⟩⟩
  case payResult => exact ⟨_, fun s => ⟨rfl, (show ChangesOnly _ _ _ by apply payResult_frame) .ports (by decide)⟩⟩
  case cashSettle => exact ⟨_, fun s => ⟨rfl, (show ChangesOnly _ _ _ by apply cashSettle_frame) .ports (by decide)⟩⟩
  case readPayment => exact ⟨_, fun s => ⟨rfl, rfl⟩⟩
  case journalRead => exact ⟨_, fun s => ⟨rfl, (show ChangesOnly _ _ _ by apply journalRead_frame) .ports (by decide)⟩⟩
  case journalAck => exact ⟨_, fun s => ⟨rfl, (show ChangesOnly _ _ _ by apply journalAck_frame) .ports (by decide)⟩⟩
  case journalStatus => exact ⟨_, fun s => ⟨rfl, rfl⟩⟩
  case shiftOpen => exact ⟨_, fun s => ⟨rfl, (show ChangesOnly _ _ _ by apply shiftOpen_frame) .ports (by decide)⟩⟩
  case shiftClose => exact ⟨_, fun s => ⟨rfl, (show ChangesOnly _ _ _ by apply shiftClose_frame) .ports (by decide)⟩⟩
  case shiftPreview => exact ⟨_, fun s => ⟨rfl, (show ChangesOnly _ _ _ by apply shiftPreview_frame) .ports (by decide)⟩⟩
  case setCommission => exact ⟨_, fun s => ⟨rfl, (show ChangesOnly _ _ _ by apply setCommission_frame) .ports (by decide)⟩⟩
  case setOfflineCap => exact ⟨_, fun s => ⟨rfl, (show ChangesOnly _ _ _ by apply setOfflineCap_frame) .ports (by decide)⟩⟩
  case setTipCap => exact ⟨_, fun s => ⟨rfl, (show ChangesOnly _ _ _ by apply setTipCap_frame) .ports (by decide)⟩⟩
  case setHoldLimit => exact ⟨_, fun s => ⟨rfl, (show ChangesOnly _ _ _ by apply setHoldLimit_frame) .ports (by decide)⟩⟩
  case readTotalizers => exact ⟨_, fun s => ⟨rfl, rfl⟩⟩
  case setBrightness => exact ⟨_, fun s => ⟨rfl, (show ChangesOnly _ _ _ by apply setBrightness_frame) .ports (by decide)⟩⟩
  case lampTest => exact ⟨_, fun s => ⟨rfl, (show ChangesOnly _ _ _ by apply lampTest_frame) .ports (by decide)⟩⟩
  case lampClear => exact ⟨_, fun s => ⟨rfl, (show ChangesOnly _ _ _ by apply lampClear_frame) .ports (by decide)⟩⟩
  case readSign => exact ⟨_, fun s => ⟨rfl, rfl⟩⟩
  case setPathGain => exact ⟨_, fun s => ⟨rfl, (show ChangesOnly _ _ _ by apply setPathGain_frame) .ports (by decide)⟩⟩
  case setIntercomMode => exact ⟨_, fun s => ⟨rfl, (show ChangesOnly _ _ _ by apply setIntercomMode_frame) .ports (by decide)⟩⟩
  case setIntercomMute => exact ⟨_, fun s => ⟨rfl, (show ChangesOnly _ _ _ by apply setIntercomMute_frame) .ports (by decide)⟩⟩
  case setTalkOverride => exact ⟨_, fun s => ⟨rfl, (show ChangesOnly _ _ _ by apply setTalkOverride_frame) .ports (by decide)⟩⟩
  case playTone => exact ⟨_, fun s => ⟨rfl, (show ChangesOnly _ _ _ by apply playTone_frame) .ports (by decide)⟩⟩
  case readIntercom => exact ⟨_, fun s => ⟨rfl, rfl⟩⟩
  case readNotices => exact ⟨_, fun s => ⟨rfl, (show ChangesOnly _ _ _ by apply readNotices_frame) .ports (by decide)⟩⟩
  case clearNotices => exact ⟨_, fun s => ⟨rfl, (show ChangesOnly _ _ _ by apply clearNotices_frame) .ports (by decide)⟩⟩
  case setNoticeEnable => exact ⟨_, fun s => ⟨rfl, (show ChangesOnly _ _ _ by apply setNoticeEnable_frame) .ports (by decide)⟩⟩
  case readRoutes => exact ⟨_, fun s => ⟨rfl, rfl⟩⟩
  case setRoute => exact ⟨_, fun s => ⟨rfl, (show ChangesOnly _ _ _ by apply setRoute_frame) .ports (by decide)⟩⟩
  case postMessage => exact ⟨_, fun s => ⟨rfl, (show ChangesOnly _ _ _ by apply postMessage_frame) .ports (by decide)⟩⟩
  case takeMessage => exact ⟨_, fun s => ⟨rfl, (show ChangesOnly _ _ _ by apply takeMessage_frame) .ports (by decide)⟩⟩

/-- Every command changes the parts it touches alone. -/
theorem exec_frame {c : Instr} {s t : State} (h : exec c s = .next t) : ChangesOnly (touches c) s t := by
  cases c
  case readMotion => exact execReadMotion_frame h
  case setStopInterlock => exact execSetStopInterlock_frame h
  case calBegin => exact execCalBegin_frame h
  case calMark => exact execCalMark_frame h
  case calAbort => exact execCalAbort_frame h
  case calAdopt => exact execCalAdopt_frame h
  case tariffBegin => exact execTariffBegin_frame h
  case tariffItem => exact execTariffItem_frame h
  case tariffCommit => exact execTariffCommit_frame h
  case tariffRead => exact execTariffRead_frame h
  case setClock => exact execSetClock_frame h
  case setHoliday => exact execSetHoliday_frame h
  case zoneReport => exact execZoneReport_frame h
  case setZoneWatch => exact execSetZoneWatch_frame h
  case tariffStatus => exact execTariffStatus_frame h
  case startHire => exact execStartHire_frame h
  case stopHire => exact execStopHire_frame h
  case resumeHire => exact execResumeHire_frame h
  case addExtra => exact execAddExtra_frame h
  case pinTariff => exact execPinTariff_frame h
  case readParty => exact execReadParty_frame h
  case listParties => exact execListParties_frame h
  case setDuty => exact execSetDuty_frame h
  case setOnCall => exact execSetOnCall_frame h
  case setSeatLimit => exact execSetSeatLimit_frame h
  case payOpen => exact execPayOpen_frame h
  case payTip => exact execPayTip_frame h
  case pinState => exact execPinState_frame h
  case setPinGuard => exact execSetPinGuard_frame h
  case payResult => exact execPayResult_frame h
  case cashSettle => exact execCashSettle_frame h
  case readPayment => exact execReadPayment_frame h
  case journalRead => exact execJournalRead_frame h
  case journalAck => exact execJournalAck_frame h
  case journalStatus => exact execJournalStatus_frame h
  case shiftOpen => exact execShiftOpen_frame h
  case shiftClose => exact execShiftClose_frame h
  case shiftPreview => exact execShiftPreview_frame h
  case setCommission => exact execSetCommission_frame h
  case setOfflineCap => exact execSetOfflineCap_frame h
  case setTipCap => exact execSetTipCap_frame h
  case setHoldLimit => exact execSetHoldLimit_frame h
  case readTotalizers => exact execReadTotalizers_frame h
  case setBrightness => exact execSetBrightness_frame h
  case lampTest => exact execLampTest_frame h
  case lampClear => exact execLampClear_frame h
  case readSign => exact execReadSign_frame h
  case setPathGain => exact execSetPathGain_frame h
  case setIntercomMode => exact execSetIntercomMode_frame h
  case setIntercomMute => exact execSetIntercomMute_frame h
  case setTalkOverride => exact execSetTalkOverride_frame h
  case playTone => exact execPlayTone_frame h
  case readIntercom => exact execReadIntercom_frame h
  case readNotices => exact execReadNotices_frame h
  case clearNotices => exact execClearNotices_frame h
  case setNoticeEnable => exact execSetNoticeEnable_frame h
  case readRoutes => exact execReadRoutes_frame h
  case setRoute => exact execSetRoute_frame h
  case postMessage => exact execPostMessage_frame h
  case takeMessage => exact execTakeMessage_frame h
  case frameDiscarded => exact execFrameDiscarded_frame h
  case formatReply => exact execFormatReply_frame h
  case replyRead => exact execReplyRead_frame h
  case distancePulse => exact execDistancePulse_frame h
  case windowClose => exact execWindowClose_frame h
  case sealClose => exact execSealClose_frame h
  case sealOpen => exact execSealOpen_frame h
  case clockSecond => exact execClockSecond_frame h
  case zoneWatchExpiry => exact execZoneWatchExpiry_frame h
  case sessionExpiry => exact execSessionExpiry_frame h
  case pinGuardExpiry => exact execPinGuardExpiry_frame h
  case testTimerExpiry => exact execTestTimerExpiry_frame h
  case lampPhaseChange => exact execLampPhaseChange_frame h
  case releaseTimerExpiry => exact execReleaseTimerExpiry_frame h
  case talkKeyPress => exact execTalkKeyPress_frame h
  case talkKeyRelease => exact execTalkKeyRelease_frame h
  case floorTimerExpiry => exact execFloorTimerExpiry_frame h
  case codecFrame => exact execCodecFrame_frame h
  case toneEnd => exact execToneEnd_frame h
  case appendWriteStart => exact execAppendWriteStart_frame h
  case appendComplete => exact execAppendComplete_frame h
  case powerLoss => exact execPowerLoss_frame h
  case restart => exact execRestart_frame h

end Sys2Proof.Machine
end

