-- ==== Sys2Proof/Laws/Closure.lean ====
section
/-! SUPPORT. What a window closure leaves in each part of the state. -/

namespace Sys2Proof.Machine

/-! ## Vectors -/

theorem mapVector_getElem {α β : Type} {n : Nat} (f : α → β) (v : Vector α n) (i : Fin n) :
    (mapVector f v)[i] = f v[i] := by
  simp [mapVector]

theorem mapFrom_getElem {α β : Type} (f : Nat → α → β) (l : List α) (k i : Nat) (h : i < l.length) :
    (mapFrom f k l)[i]'(by simpa [mapFrom_length] using h) = f (k + i) l[i] := by
  induction l generalizing k i with
  | nil => exact absurd h (Nat.not_lt_zero _)
  | cons x xs ih =>
    cases i with
    | zero => rfl
    | succ i =>
      simp only [mapFrom, List.getElem_cons_succ]
      rw [ih (k + 1) i (by simpa using h)]
      congr 1
      omega

theorem mapVectorIdx_getElem {α β : Type} {n : Nat} (f : Nat → α → β) (v : Vector α n) (i : Fin n) :
    (mapVectorIdx f v)[i] = f i.val v[i] := by
  simp [mapVectorIdx, mapFrom_getElem]

/-! ## The closure -/

theorem State.closed_party (s : State) (sense : LampSense) (i : Fin 4) :
    (s.closed sense).party i = (s.party i).map (Party.atClosure s.store s.meas.cal.k s.meas.charged s.shareCount) :=
  mapVector_getElem _ _ _

theorem State.tryActivate_keeps (s : State) {c : Part} (h : c ≠ .store) (h2 : c ≠ .journal) : SameAt s s.tryActivate c :=
  State.tryActivate_frame s c (by simp [h, h2])

/-- The parts of the state after a closure. -/
theorem windowClose_parts (s : State) (sense : LampSense) :
    (windowClose sense s).meas = s.meas.close ∧
    (windowClose sense s).table = (s.closed sense).table ∧
    (windowClose sense s).shift = (s.closed sense).shift ∧
    (windowClose sense s).sign = s.sign.close s.store.period sense ∧
    (windowClose sense s).pay = s.pay ∧
    (windowClose sense s).ports = s.ports ∧
    (windowClose sense s).intercom.codecs = ⟨s.intercom.codecs.front.close, s.intercom.codecs.rear.close⟩ ∧
    (windowClose sense s).store = (s.closed sense).tryActivate.store ∧
    (windowClose sense s).journal = (s.closed sense).tryActivate.journal ∧
    (windowClose sense s).notices = (s.raiseIf (decide (0 < s.meas.excess)) .sensorOverrun).notices := by
  have hk := fun {c} => (s.closed sense).tryActivate_keeps (c := c)
  have hi : (s.closed sense).tryActivate.intercom = (s.closed sense).intercom := hk (c := .intercom) (by decide) (by decide)
  have hn : (s.closed sense).tryActivate.notices = s.notices := hk (c := .notices) (by decide) (by decide)
  refine ⟨?_, ?_, ?_, ?_, ?_, ?_, ?_, ?_, ?_, ?_⟩ <;> simp only [windowClose, State.settleGates_meas, State.raiseIf_meas,
    State.settleGates_table, State.raiseIf_table, State.settleGates_shift, State.raiseIf_shift, State.settleGates_sign,
    State.raiseIf_sign, State.settleGates_pay, State.raiseIf_pay, State.settleGates_ports, State.raiseIf_ports,
    State.settleGates_store, State.raiseIf_store, State.settleGates_journal, State.raiseIf_journal,
    State.settleGates_notices]
  · exact hk (c := .meas) (by decide) (by decide)
  · exact hk (c := .table) (by decide) (by decide)
  · exact hk (c := .shift) (by decide) (by decide)
  · exact hk (c := .sign) (by decide) (by decide)
  · exact hk (c := .pay) (by decide) (by decide)
  · exact hk (c := .ports) (by decide) (by decide)
  · show ((State.raiseIf _ _ _).intercom).codecs = _
    rw [State.raiseIf_intercom, hi]
    rfl
  · unfold State.raiseIf State.raise
    cases decide (0 < s.meas.excess) <;> simp [hn]

/-- A slot after a closure. -/
theorem windowClose_party (s : State) (sense : LampSense) (i : Fin 4) :
    (windowClose sense s).party i =
      (s.party i).map (Party.atClosure s.store s.meas.cal.k s.meas.charged s.shareCount) := by
  have h := (windowClose_parts s sense).2.1
  simp only [State.party, h]
  exact State.closed_party s sense i

end Sys2Proof.Machine
end

