-- ==== Sys2Proof/Laws/Ops.lean ====
section
/-! SUPPORT. The shared operations: for each, the lemma that says once what it can do. -/

namespace Sys2Proof.Machine

/-! ## Operands -/

theorem slotOf_eq {b : Byte} {i : Fin 4} (h : b.toNat = i.val) : slotOf b = some i := by
  simp [slotOf, h]

theorem slotOf_none {b : Byte} (h : 3 < b.toNat) : slotOf b = none := by
  simp [slotOf]
  omega

theorem numberOf_eq {b : Byte} {i : Fin 8} (h : b.toNat = i.val + 1) : numberOf b = some i := by
  unfold numberOf
  rw [dif_pos (by omega)]
  congr 1
  apply Fin.ext
  simp only
  omega

theorem ruleNumberOf_eq {b : Byte} {i : Fin 16} (h : b.toNat = i.val + 1) : ruleNumberOf b = some i := by
  unfold ruleNumberOf
  rw [dif_pos (by omega)]
  congr 1
  apply Fin.ext
  simp only
  omega

theorem flagOf_eq {b : Byte} (h : b.toNat ≤ 1) : flagOf b = some (decide (b.toNat = 1)) := by
  unfold flagOf
  by_cases h0 : b.toNat = 0
  · simp [h0]
  · have h1 : b.toNat = 1 := by omega
    simp [h1]

theorem flagOf_none {b : Byte} (h : 1 < b.toNat) : flagOf b = none := by
  unfold flagOf
  rw [if_neg (by omega), if_neg (by omega)]

theorem portOf_code {b : Byte} {p : Port} (h : b.toNat = portCode p) : portOf b = some p := by
  unfold portOf
  rw [h]
  cases p <;> rfl

/-! ## Replies -/

/-- A request that only reads answers its results and changes nothing but its port's buffers. -/
theorem request_reads {p : Port} {k : Kind} {f : State → List Byte} {s : State} (hp : s.powered = true)
    (hr : k.ports.has p = true) :
    request p k (fun s => { state := s, status := .ok, results := f s }) s = .next (s.putReply p k.code .ok (f s)) :=
  request_taken hp hr

/-- A presence field of one item is the item's flag. -/
theorem presence_one (b : Bool) : presence [b] = u8 (if b then 1 else 0) := by
  cases b <;> rfl

theorem clockOut_length (frame : List Byte) (n : Nat) : (clockOut frame n).length = n := by
  simp only [clockOut, List.length_append, List.length_take, List.length_replicate]
  omega

/-! ## Notices -/

theorem State.raise_routes (s : State) (src : NoticeSource) : (s.raise src).notices.routes = s.notices.routes := rfl

theorem State.raiseIf_routes (s : State) (c : Bool) (src : NoticeSource) :
    (s.raiseIf c src).notices.routes = s.notices.routes := by
  cases c <;> rfl

/-- What raising a source leaves of a port's notices but its pulses. -/
theorem State.raise_port (s : State) (src : NoticeSource) (p : Port) :
    (s.raise src).notices.ports.get p =
      if (s.notices.route src).has p then (s.notices.ports.get p).add src else s.notices.ports.get p := by
  cases p <;> rfl

/-! ## The sign -/

@[simp] theorem Lamp.settle_override (l : Lamp) (lit : Bool) (w : Nat) : (l.settle lit w).override = l.override := by
  cases lit <;> rfl

@[simp] theorem Lamp.settle_dark (l : Lamp) (lit : Bool) (w : Nat) : (l.settle lit w).dark = l.dark := by cases lit <;> rfl

@[simp] theorem Lamp.settle_latch (l : Lamp) (lit : Bool) (w : Nat) : (l.settle lit w).latch = l.latch := by
  cases lit <;> rfl

/-- A settled lamp runs a modulation period exactly in the on phase (R149). -/
@[simp] theorem Lamp.settle_period_isSome (l : Lamp) (lit : Bool) (w : Nat) : (l.settle lit w).period.isSome = lit := by
  cases lit <;> rfl

/-- The on phase is decided by the channel and the lamp's override. -/
theorem Sign.channelLit_congr {g h : Sign} {i : Nat} {l m : Lamp} (hs : g.state = h.state) (hp : g.phase = h.phase)
    (ho : l.override = m.override) : g.channelLit i l = h.channelLit i m := by
  simp only [Sign.channelLit, hs, hp, ho]

theorem Sign.settleLamps_lamp (g : Sign) (i : Fin 4) :
    g.settleLamps.lamps[i] = (g.lamps[i]).settle (g.channelLit i g.lamps[i]) (onSlots g.level) :=
  mapVectorIdx_getElem _ _ _

/-- A settled sign runs a modulation period exactly in the channels that are in their on phase (R149). -/
theorem Sign.settleLamps_lit (g : Sign) (i : Fin 4) :
    (g.settleLamps.lamps[i]).period.isSome = g.settleLamps.channelLit i g.settleLamps.lamps[i] := by
  rw [Sign.settleLamps_lamp, Lamp.settle_period_isSome]
  exact Sign.channelLit_congr rfl rfl (Lamp.settle_override _ _ _).symm

/-- Settling the lamps changes nothing but their modulation periods. -/
theorem Sign.settleLamps_rest (g : Sign) : g.settleLamps = { g with lamps := g.settleLamps.lamps } := rfl

/-- What entering a sign state leaves: the levels, the period in use, the test timer and the sense. -/
theorem Sign.enter_rest (g : Sign) (st : SignState) :
    g.enter st = { g with state := st, phase := 0, lamps := (g.enter st).lamps } := rfl

/-- What entering a sign state leaves of a lamp: its override, its dark-sample count and its latch. -/
theorem Sign.enter_lamp (g : Sign) (st : SignState) (i : Fin 4) :
    (g.enter st).lamps[i] = { g.lamps[i] with period := ((g.enter st).lamps[i]).period } := by
  have h : ∀ l m : Lamp, l.override = m.override → l.dark = m.dark → l.latch = m.latch → l = { m with period := l.period } := by
    rintro ⟨_, _, _, _⟩ ⟨_, _, _, _⟩ rfl rfl rfl
    rfl
  apply h <;>
    simp only [Sign.enter, Sign.settleLamps_lamp, Lamp.settle_override, Lamp.settle_dark, Lamp.settle_latch,
      mapVectorIdx_getElem] <;> split <;> rfl

/-- After an update of the sign its state is the derived one. -/
theorem State.updateSign_state (s : State) : s.updateSign.sign.state = s.deriveSign := by
  unfold State.updateSign
  split
  · next h => exact h.symm
  · rfl

/-- What an update of the sign leaves: its levels, period, test timer and sense, and of its lamps all but their modulation
periods. -/
theorem State.updateSign_rest (s : State) :
    s.updateSign.sign = { s.sign with
      state := s.deriveSign, phase := s.updateSign.sign.phase, lamps := s.updateSign.sign.lamps } := by
  unfold State.updateSign
  split
  · next h => rw [h]
  · rfl

/-- A lamp settled twice for the same phase is settled once. -/
theorem Lamp.settle_settle (l : Lamp) (lit : Bool) (w : Nat) : (l.settle lit w).settle lit w = l.settle lit w := by
  cases lit <;> simp [Lamp.settle]

/-- What cancelling a lamp test leaves of the sign: the derived state, no test, and its levels, period and sense (R154). -/
theorem State.cancelTest_rest (s : State) :
    s.cancelTest.sign = { s.sign with
      state := s.deriveSign, phase := s.cancelTest.sign.phase, lamps := s.cancelTest.sign.lamps, test := none } := by
  have h : (State.deriveSign { s with sign := s.sign.dropTest }) = s.deriveSign := rfl
  unfold State.cancelTest State.settleSign State.updateSign
  split
  · next e => rw [h] at e; simp [Sign.settleLamps, Sign.dropTest, e]
  · rfl

/-- A lamp after a test is cancelled: its override is NORMAL, and where its channel is in its on phase under the derived
state, which is STEADY there or the state before, a modulation period that ran goes on (R149, R154, log 25). -/
theorem State.cancelTest_lamp (s : State) (i : Fin 4)
    (h : s.deriveSign = s.sign.state ∨ (channelMode s.deriveSign i).timed = false) :
    s.cancelTest.sign.lamps[i] = ({ s.sign.lamps[i] with override := .normal } : Lamp).settle
      (s.cancelTest.sign.channelLit i s.cancelTest.sign.lamps[i]) (onSlots s.sign.level) := by
  have hd : (State.deriveSign { s with sign := s.sign.dropTest }) = s.deriveSign := rfl
  have key : ∀ (g : Sign), (∀ j : Fin 4, g.settleLamps.lamps[j] =
      (g.lamps[j]).settle (g.settleLamps.channelLit j g.settleLamps.lamps[j]) (onSlots g.level)) := fun g j => by
    rw [← Sign.settleLamps_lit, Sign.settleLamps_lamp, Lamp.settle_period_isSome]
  have drop : s.sign.dropTest.lamps[i] = { s.sign.lamps[i] with override := .normal } := by
    simp [Sign.dropTest, mapVector]
  unfold State.cancelTest State.settleSign State.updateSign
  split
  · next e => exact (key s.sign.dropTest i).trans (by rw [drop]; rfl)
  · next e =>
    have hm : (channelMode s.deriveSign i).timed = false := h.resolve_left (fun x => e (hd.trans x))
    let g := s.sign.dropTest.enter s.deriveSign
    have lamp : g.lamps[i] = ({ s.sign.lamps[i] with override := .normal } : Lamp).settle (g.channelLit i g.lamps[i])
        (onSlots s.sign.level) := by
      refine (key _ i).trans ?_
      simp only [mapVectorIdx_getElem, hm, Bool.false_eq_true, false_and, if_false, drop]
      rfl
    have lit : g.settleLamps.channelLit i g.settleLamps.lamps[i] = g.channelLit i g.lamps[i] :=
      Sign.channelLit_congr rfl rfl (by rw [Sign.settleLamps_lamp, Lamp.settle_override])
    refine (key g i).trans ?_
    show (g.lamps[i]).settle (g.settleLamps.channelLit i g.settleLamps.lamps[i]) (onSlots s.sign.level) =
      Lamp.settle _ (g.settleLamps.channelLit i g.settleLamps.lamps[i]) _
    rw [lit]
    generalize g.channelLit i g.lamps[i] = b at lamp ⊢
    rw [lamp, Lamp.settle_settle]

/-! ## The gates -/

/-- A gate is MUTED after an update exactly while a factor is active. -/
theorem gateAfter_muted (active : Bool) (l : AudioLine) : (gateAfter active l).gate = .muted ↔ active = true := by
  cases active with
  | true => simp [gateAfter]
  | false =>
    unfold gateAfter
    cases hg : l.gate
    · by_cases hr : l.release = 0 <;> simp [hr]
    · simp [hg]
    · simp [hg]

/-- An update of a gate changes nothing else of its path. -/
theorem gateAfter_rest (active : Bool) (l : AudioLine) :
    gateAfter active l = { l with gate := (gateAfter active l).gate } := by
  cases active
  · unfold gateAfter
    cases hg : l.gate <;> rfl
  · rfl

theorem State.settleGates_path (s : State) (q : AudioPath) :
    s.settleGates.intercom.paths.get q = gateAfter (s.factors q).any (s.intercom.paths.get q) := by
  cases q <;> rfl

theorem State.settleGates_speakers (s : State) : s.settleGates.intercom.speakers = s.intercom.speakers := rfl

theorem State.settleGates_codecs (s : State) : s.settleGates.intercom.codecs = s.intercom.codecs := rfl

/-! ## Tones -/

/-- Everything a tone request can do to a speaker (R177). -/
theorem Speaker.take_cases (x : Speaker) (t : Tone) :
    (x.playing = none ∧ x.take t = { x with playing := some { tone := t, given := 0 } }) ∨
    (x.playing ≠ none ∧ t ∈ x.waiting ∧ x.take t = x) ∨
    (x.playing ≠ none ∧ t ∉ x.waiting ∧ x.waiting.length < 4 ∧ x.take t = { x with waiting := x.waiting ++ [t] }) ∨
    (x.playing ≠ none ∧ t ∉ x.waiting ∧ 4 ≤ x.waiting.length ∧ x.take t = { x with drops := satAdd max16 x.drops 1 }) := by
  cases hp : x.playing with
  | none =>
    have ho : x.outcome t = .started := by simp [Speaker.outcome, hp]
    exact .inl ⟨rfl, by simp only [Speaker.take, ho]⟩
  | some y =>
    refine .inr ?_
    by_cases hm : t ∈ x.waiting
    · have ho : x.outcome t = .merged := by simp [Speaker.outcome, hp, hm]
      exact .inl ⟨by simp, hm, by simp only [Speaker.take, ho]⟩
    · refine .inr ?_
      by_cases hl : x.waiting.length < 4
      · have ho : x.outcome t = .queued := by simp [Speaker.outcome, hp, hm, hl]
        exact .inl ⟨by simp, hm, hl, by simp only [Speaker.take, ho, hp]⟩
      · have ho : x.outcome t = .dropped := by simp [Speaker.outcome, hp, hm, hl]
        exact .inr ⟨by simp, hm, Nat.not_lt.mp hl, by simp only [Speaker.take, ho, hp]⟩

/-- A request leaves a speaker playing. -/
theorem Speaker.take_playing (x : Speaker) (t : Tone) : (x.take t).playing ≠ none := by
  obtain ⟨-, h⟩ | ⟨hp, -, h⟩ | ⟨hp, -, -, h⟩ | ⟨hp, -, -, h⟩ := x.take_cases t <;> rw [h] <;> simp_all

/-! ## Journal -/

theorem RecordStore.append_stored (j : RecordStore) (b : EntryBody) :
    (j.append b).stored = j.stored ∧ (j.append b).nextSeq = j.nextSeq ∧ (j.append b).inFlight = j.inFlight := by
  unfold RecordStore.append
  split <;> exact ⟨rfl, rfl, rfl⟩

theorem RecordStore.append_queued (j : RecordStore) (b : EntryBody) : (j.append b).queued = j.queued + 1 := by
  unfold RecordStore.append RecordStore.queued
  split <;> simp only [List.length_append, List.length_cons, List.length_nil] <;> omega

/-- An append adds its body to the queued bodies. -/
theorem RecordStore.append_count (j : RecordStore) (b : EntryBody) (f : EntryBody → Bool) :
    ((j.append b).places ++ (j.append b).waiting).countP f =
      (j.places ++ j.waiting).countP f + (if f b then 1 else 0) := by
  unfold RecordStore.append
  split <;> simp only [List.countP_append, List.countP_cons, List.countP_nil] <;> omega

/-- A completion takes the first place's body off the queued bodies. -/
theorem RecordStore.complete_count {j : RecordStore} {b : EntryBody} (e : Entry) (h : j.flying = some b)
    (f : EntryBody → Bool) :
    ((j.complete e).places ++ (j.complete e).waiting).countP f + (if f b then 1 else 0) =
      (j.places ++ j.waiting).countP f := by
  unfold RecordStore.flying at h
  split at h
  · cases hp : j.places with
    | nil => simp [hp] at h
    | cons x xs =>
      obtain rfl : x = b := by simpa [hp] using h
      simp only [RecordStore.complete, hp, List.tail_cons, List.countP_append, List.countP_cons]
      have := List.countP_append (p := f) (l₁ := j.waiting.take 1) (l₂ := j.waiting.drop 1)
      rw [List.take_append_drop] at this
      omega
  · cases h

/-- The first update of a completion: what it stores, and what it leaves. -/
theorem State.storeHead_eq {s t : State} {e : Entry} (h : s.storeHead = some (e, t)) :
    ∃ b, s.journal.flying = some b ∧ e = storedEntry s.journal.nextSeq s.store.now b ∧
      t = { s with journal := s.journal.complete e } := by
  unfold State.storeHead at h
  split at h
  · cases h
  · next b hb =>
    simp only [Option.some.injEq, Prod.mk.injEq] at h
    exact ⟨b, hb, h.1.symm, by rw [← h.2, ← h.1]⟩

/-- Everything a completion can do (R114): nothing without a write in flight, or its updates in one event. -/
theorem appendComplete_cases (s : State) :
    (s.journal.flying = none ∧ appendComplete s = s) ∨
    ∃ b, s.journal.flying = some b ∧
      appendComplete s =
        State.afterStored { s with journal := s.journal.complete (storedEntry s.journal.nextSeq s.store.now b) }
          (storedEntry s.journal.nextSeq s.store.now b) := by
  cases h : s.journal.flying with
  | none => exact .inl ⟨rfl, by simp only [appendComplete, State.storeHead, h]⟩
  | some b => exact .inr ⟨b, rfl, by simp only [appendComplete, State.storeHead, h]⟩

theorem storedEntry_seq (n : Nat) (now : Stamp) (b : EntryBody) : (storedEntry n now b).seq = n := by
  cases b <;> rfl

/-! ## Parties and tenders -/

/-- The amount remaining once a tender of at most that amount is appended. -/
theorem Party.remaining_tender (p : Party) (t : Tender) :
    ({ p with tenders := p.tenders ++ [t] } : Party).remaining = p.remaining - t.applied := by
  simp only [Party.remaining, Party.due, tendersTotal, List.map_append, List.map_cons, List.map_nil, List.sum_append,
    List.sum_cons, List.sum_nil]
  omega

/-- A party that enters CLOSING, and its entry (R78). -/
theorem State.enterClosing_eq (s : State) (i : Fin 4) (p : Party) :
    s.enterClosing i p = { s.setParty i (some { p with state := .closing, payment := none }) with
      journal := s.journal.append (.trip (tripEntry s.meas.cal.k i { p with state := .closing, payment := none })) } := rfl

/-- Everything a tender can do to its party (R84): it settles the party, or leaves it STOPPED. -/
theorem State.applyTender_cases (s : State) (i : Fin 4) (p : Party) (t : Tender) :
    (p.remaining ≤ t.applied ∧ s.applyTender i p t = s.enterClosing i { p with tenders := p.tenders ++ [t] }) ∨
    (t.applied < p.remaining ∧ s.applyTender i p t =
      s.setParty i (some { p with state := .stopped, payment := none, tenders := p.tenders ++ [t] })) := by
  unfold State.applyTender
  by_cases h : p.remaining ≤ t.applied
  · exact .inl ⟨h, by simp only [Party.remaining_tender, if_pos (show p.remaining - t.applied = 0 by omega)]⟩
  · exact .inr ⟨Nat.not_le.mp h, by simp only [Party.remaining_tender, if_neg (show ¬p.remaining - t.applied = 0 by omega)]⟩

theorem State.releaseParty_some {s : State} {i : Fin 4} {p : Party} (h : s.party i = some p) :
    s.releaseParty i = s.setParty i (some { p with state := .stopped, payment := none }) := by
  simp only [State.releaseParty, h]

theorem State.releaseParty_none {s : State} {i : Fin 4} (h : s.party i = none) : s.releaseParty i = s := by
  simp only [State.releaseParty, h]

/-- The tender of an approval applies the approved amount up to the amount remaining (R98). -/
theorem State.approvalTender_applied (s : State) (p : Party) (payment : Nat) (offline : Bool) (amount reference : Nat) :
    (s.approvalTender p payment offline amount reference).applied = min amount p.remaining := by
  cases offline <;> rfl

theorem pushRecent_length {l : List RecentSession} (x : RecentSession) (h : l.length ≤ 4) :
    (pushRecent l x).length ≤ 4 := by
  unfold pushRecent
  split
  · simp only [List.length_append, List.length_tail, List.length_cons, List.length_nil]; omega
  · next hl => simp only [List.length_append, List.length_cons, List.length_nil, Config.recentPlaces] at *; omega

/-- What a screening of a slot answers (R62). -/
theorem State.screen_ok {s : State} {i : Fin 4} {p : Party} (h : s.screen i = .ok p) :
    s.party i = some p ∧ (p.state = .running ∨ p.state = .stopped) := by
  unfold State.screen at h
  cases hp : s.party i with
  | none => rw [hp] at h; cases h
  | some q =>
    rw [hp] at h
    cases hs : q.state <;> simp only [hs] at h <;> cases h
    · exact ⟨rfl, .inl hs⟩
    · exact ⟨rfl, .inr hs⟩

/-! ## The restart -/

/-- Everything the restore can do to a slot (R123, R124). -/
theorem State.restoreSlot_cases (s : State) (i : Fin 4) :
    (∃ p t, s.party i = some p ∧ p.state = .closing ∧ s.journal.newestTrip = some t ∧ t.hire = p.hire ∧
      s.restoreSlot i = { s.setParty i none with shift := if p.counted then s.shift else s.shift.countTrip t }) ∨
    (∃ p, s.party i = some p ∧ p.state = .closing ∧ s.journal.newestTrip.map (·.hire) ≠ some p.hire ∧
      s.restoreSlot i = { s with journal := s.journal.append (.trip (tripEntry s.meas.cal.k i p)) }) ∨
    (∃ p, s.party i = some p ∧ p.state ≠ .closing ∧ s.restoreSlot i = s.setParty i (some (p.restored s.store.now))) ∨
    (s.party i = none ∧ s.restoreSlot i = s) := by
  unfold State.restoreSlot
  cases h : s.party i with
  | none => simp
  | some p =>
    by_cases hc : p.state = .closing
    · unfold State.restoreClosing
      cases hn : s.journal.newestTrip with
      | none => exact .inr (.inl ⟨p, rfl, hc, by simp, by simp only [hc, if_true]⟩)
      | some t =>
        by_cases hh : t.hire = p.hire
        · exact .inl ⟨p, t, rfl, hc, rfl, hh, by simp only [hc, if_true, hh]⟩
        · exact .inr (.inl ⟨p, rfl, hc, by simpa using hh, by simp only [hc, if_true, hh, if_false]⟩)
    · exact .inr (.inr (.inl ⟨p, rfl, hc, by simp only [hc, if_false]⟩))

/-- The restore of a slot changes the table, the journal and the shift alone. -/
theorem State.restoreSlot_frame (s : State) (i : Fin 4) : ChangesOnly [.table, .journal, .shift] s (s.restoreSlot i) := by
  obtain ⟨p, t, -, -, -, -, h⟩ | ⟨p, -, -, -, h⟩ | ⟨p, -, -, h⟩ | ⟨-, h⟩ := s.restoreSlot_cases i <;> rw [h] <;>
    intro c hc <;> cases c <;> first | rfl | (simp at hc; done)

/-- Everything the restore can do to the shift (R125). -/
theorem State.restoreShift_cases (s : State) :
    (s.shift.state ≠ .closing ∧ s.restoreShift = s) ∨
    (∃ r t, s.shift.state = .closing ∧ s.journal.newestShift = some (r, t) ∧ s.shift.number = some r.number ∧
      s.restoreShift = ({ s with shift := s.shift.closeAt t } : State).raise .shiftClosed) ∨
    (s.shift.state = .closing ∧ (∀ r t, s.journal.newestShift = some (r, t) → s.shift.number ≠ some r.number) ∧
      ∃ r, s.restoreShift = { s with journal := s.journal.append (.shift r) }) := by
  unfold State.restoreShift
  by_cases h : s.shift.state = .closing
  · simp only [h, if_true]
    cases hn : s.journal.newestShift with
    | none => exact .inr (.inr ⟨trivial, by simp, _, rfl⟩)
    | some x =>
      obtain ⟨r, t⟩ := x
      by_cases hh : s.shift.number = some r.number
      · exact .inr (.inl ⟨r, t, trivial, rfl, hh, by simp only [hh, if_true]⟩)
      · refine .inr (.inr ⟨trivial, ?_, ?_⟩)
        · intro r' t' he
          obtain ⟨rfl, rfl⟩ : r = r' ∧ t = t' := by simpa using he
          exact hh
        · exact ⟨_, by simp only [hh, if_false]; rfl⟩
  · exact .inl ⟨h, by simp only [h, if_false]⟩

end Sys2Proof.Machine
end

