-- ==== Sys2Proof/Laws/PerInstr.lean ====
section
/-! SUPPORT. The family FrameLength, one lemma for each command: the frame of a well-formed request fits the 62 bytes of a
selection, and is judged a complete frame of its kind and parameters (R196). -/

namespace Sys2Proof.Laws

/-- The frame of a request fits a selection, and its length byte makes it complete (R196). -/
def FrameLength.Statement (i : Instr) : Prop :=
  i.wellFormed = true → ∀ f, requestFrame i = some f →
    f.length ≤ 62 ∧ ∃ kind params, f = kind :: BitVec.ofNat 8 params.length :: params ∧
      judgeSelection f = .complete kind params

/-- A kind's code is no 0, which would make the selection a reply read (R195). -/
theorem FrameLength.kind_ne (k : Kind) : BitVec.ofNat 8 k.code ≠ 0 := by cases k <;> decide

/-- The frame of a command whose parameters are at most 60 bytes. -/
theorem FrameLength.of_length {i : Instr}
    (h : i.wellFormed = true → ∀ p k ps, i.request? = some (p, k, ps) → ps.length ≤ 60) : FrameLength.Statement i := by
  intro hw f hf
  unfold requestFrame at hf
  cases hr : i.request? with
  | none => rw [hr] at hf; cases hf
  | some r =>
    obtain ⟨p, k, ps⟩ := r
    have hl := h hw p k ps hr
    rw [hr] at hf
    cases hf
    have hlen : (BitVec.ofNat 8 ps.length).toNat = ps.length := by
      rw [BitVec.toNat_ofNat]
      exact Nat.mod_eq_of_lt (by omega)
    refine ⟨?_, _, ps, rfl, ?_⟩
    · simp only [List.length_cons]; omega
    · have hk : ¬BitVec.ofNat 8 k.code = 0#8 := FrameLength.kind_ne k
      simp [judgeSelection, hk, hlen, Nat.not_lt.mpr hl]

theorem FrameLength.readMotion (p : Port) : FrameLength.Statement (.readMotion p) :=
  of_length (fun _ q k ps h => by cases h; simp)

theorem FrameLength.setStopInterlock (p : Port) (speed : BitVec 16) :
    FrameLength.Statement (.setStopInterlock p speed) :=
  of_length (fun _ q k ps h => by cases h; simp)

theorem FrameLength.calBegin (p : Port) (course : BitVec 16) : FrameLength.Statement (.calBegin p course) :=
  of_length (fun _ q k ps h => by cases h; simp)

theorem FrameLength.calMark (p : Port) : FrameLength.Statement (.calMark p) :=
  of_length (fun _ q k ps h => by cases h; simp)

theorem FrameLength.calAbort (p : Port) : FrameLength.Statement (.calAbort p) :=
  of_length (fun _ q k ps h => by cases h; simp)

theorem FrameLength.calAdopt (p : Port) (ceiling : BitVec 16) : FrameLength.Statement (.calAdopt p ceiling) :=
  of_length (fun _ q k ps h => by cases h; simp)

theorem FrameLength.tariffBegin (p : Port) : FrameLength.Statement (.tariffBegin p) :=
  of_length (fun _ q k ps h => by cases h; simp)

theorem FrameLength.tariffItem (p : Port) (itemKind number form : Byte) (fields : BitVec 176) :
    FrameLength.Statement (.tariffItem p itemKind number form fields) :=
  of_length (fun _ q k ps h => by cases h; simp)

theorem FrameLength.tariffCommit (p : Port) (version : BitVec 16) : FrameLength.Statement (.tariffCommit p version) :=
  of_length (fun _ q k ps h => by cases h; simp)

theorem FrameLength.tariffRead (p : Port) (set itemKind number : Byte) :
    FrameLength.Statement (.tariffRead p set itemKind number) :=
  of_length (fun _ q k ps h => by cases h; simp)

theorem FrameLength.setClock (p : Port) (value : BitVec 32) : FrameLength.Statement (.setClock p value) :=
  of_length (fun _ q k ps h => by cases h; simp)

theorem FrameLength.setHoliday (p : Port) (value : Byte) : FrameLength.Statement (.setHoliday p value) :=
  of_length (fun _ q k ps h => by cases h; simp)

theorem FrameLength.zoneReport (p : Port) (code : BitVec 16) (quality : Byte) :
    FrameLength.Statement (.zoneReport p code quality) :=
  of_length (fun _ q k ps h => by cases h; simp)

theorem FrameLength.setZoneWatch (p : Port) (threshold limit : Byte) :
    FrameLength.Statement (.setZoneWatch p threshold limit) :=
  of_length (fun _ q k ps h => by cases h; simp)

theorem FrameLength.tariffStatus (p : Port) : FrameLength.Statement (.tariffStatus p) :=
  of_length (fun _ q k ps h => by cases h; simp)

theorem FrameLength.startHire (p : Port) (pin : Byte) : FrameLength.Statement (.startHire p pin) :=
  of_length (fun _ q k ps h => by cases h; simp)

theorem FrameLength.stopHire (p : Port) (slot : Byte) : FrameLength.Statement (.stopHire p slot) :=
  of_length (fun _ q k ps h => by cases h; simp)

theorem FrameLength.resumeHire (p : Port) (slot : Byte) : FrameLength.Statement (.resumeHire p slot) :=
  of_length (fun _ q k ps h => by cases h; simp)

theorem FrameLength.addExtra (p : Port) (slot kind : Byte) (amount : BitVec 32) :
    FrameLength.Statement (.addExtra p slot kind amount) :=
  of_length (fun _ q k ps h => by cases h; simp)

theorem FrameLength.pinTariff (p : Port) (slot tariff : Byte) : FrameLength.Statement (.pinTariff p slot tariff) :=
  of_length (fun _ q k ps h => by cases h; simp)

theorem FrameLength.readParty (p : Port) (slot : Byte) : FrameLength.Statement (.readParty p slot) :=
  of_length (fun _ q k ps h => by cases h; simp)

theorem FrameLength.listParties (p : Port) : FrameLength.Statement (.listParties p) :=
  of_length (fun _ q k ps h => by cases h; simp)

theorem FrameLength.setDuty (p : Port) (value : Byte) : FrameLength.Statement (.setDuty p value) :=
  of_length (fun _ q k ps h => by cases h; simp)

theorem FrameLength.setOnCall (p : Port) (value : Byte) : FrameLength.Statement (.setOnCall p value) :=
  of_length (fun _ q k ps h => by cases h; simp)

theorem FrameLength.setSeatLimit (p : Port) (limit : Byte) : FrameLength.Statement (.setSeatLimit p limit) :=
  of_length (fun _ q k ps h => by cases h; simp)

theorem FrameLength.payOpen (p : Port) (slot : Byte) : FrameLength.Statement (.payOpen p slot) :=
  of_length (fun _ q k ps h => by cases h; simp)

theorem FrameLength.payTip (p : Port) (payment : BitVec 16) (hire tip : BitVec 32) :
    FrameLength.Statement (.payTip p payment hire tip) :=
  of_length (fun _ q k ps h => by cases h; simp)

theorem FrameLength.pinState (p : Port) (value : Byte) : FrameLength.Statement (.pinState p value) :=
  of_length (fun _ q k ps h => by cases h; simp)

theorem FrameLength.setPinGuard (p : Port) (time : Byte) : FrameLength.Statement (.setPinGuard p time) :=
  of_length (fun _ q k ps h => by cases h; simp)

theorem FrameLength.payResult (p : Port) (payment : BitVec 16) (hire : BitVec 32) (outcome : Byte) (amount reference : BitVec 32) :
    FrameLength.Statement (.payResult p payment hire outcome amount reference) :=
  of_length (fun _ q k ps h => by cases h; simp)

theorem FrameLength.cashSettle (p : Port) (slot : Byte) (amount : BitVec 32) :
    FrameLength.Statement (.cashSettle p slot amount) :=
  of_length (fun _ q k ps h => by cases h; simp)

theorem FrameLength.readPayment (p : Port) : FrameLength.Statement (.readPayment p) :=
  of_length (fun _ q k ps h => by cases h; simp)

theorem FrameLength.journalRead (p : Port) (seq : BitVec 32) : FrameLength.Statement (.journalRead p seq) :=
  of_length (fun _ q k ps h => by cases h; simp)

theorem FrameLength.journalAck (p : Port) (seq : BitVec 32) : FrameLength.Statement (.journalAck p seq) :=
  of_length (fun _ q k ps h => by cases h; simp)

theorem FrameLength.journalStatus (p : Port) : FrameLength.Statement (.journalStatus p) :=
  of_length (fun _ q k ps h => by cases h; simp)

theorem FrameLength.shiftOpen (p : Port) (driver : BitVec 32) : FrameLength.Statement (.shiftOpen p driver) :=
  of_length (fun _ q k ps h => by cases h; simp)

theorem FrameLength.shiftClose (p : Port) : FrameLength.Statement (.shiftClose p) :=
  of_length (fun _ q k ps h => by cases h; simp)

theorem FrameLength.shiftPreview (p : Port) : FrameLength.Statement (.shiftPreview p) :=
  of_length (fun _ q k ps h => by cases h; simp)

theorem FrameLength.setCommission (p : Port) (rate : BitVec 16) : FrameLength.Statement (.setCommission p rate) :=
  of_length (fun _ q k ps h => by cases h; simp)

theorem FrameLength.setOfflineCap (p : Port) (cap : BitVec 32) : FrameLength.Statement (.setOfflineCap p cap) :=
  of_length (fun _ q k ps h => by cases h; simp)

theorem FrameLength.setTipCap (p : Port) (cap : BitVec 16) : FrameLength.Statement (.setTipCap p cap) :=
  of_length (fun _ q k ps h => by cases h; simp)

theorem FrameLength.setHoldLimit (p : Port) (limit : BitVec 16) : FrameLength.Statement (.setHoldLimit p limit) :=
  of_length (fun _ q k ps h => by cases h; simp)

theorem FrameLength.readTotalizers (p : Port) : FrameLength.Statement (.readTotalizers p) :=
  of_length (fun _ q k ps h => by cases h; simp)

theorem FrameLength.setBrightness (p : Port) (day night : Byte) :
    FrameLength.Statement (.setBrightness p day night) :=
  of_length (fun _ q k ps h => by cases h; simp)

theorem FrameLength.lampTest (p : Port) (free hired share off : Byte) :
    FrameLength.Statement (.lampTest p free hired share off) :=
  of_length (fun _ q k ps h => by cases h; simp)

theorem FrameLength.lampClear (p : Port) : FrameLength.Statement (.lampClear p) :=
  of_length (fun _ q k ps h => by cases h; simp)

theorem FrameLength.readSign (p : Port) : FrameLength.Statement (.readSign p) :=
  of_length (fun _ q k ps h => by cases h; simp)

theorem FrameLength.setPathGain (p : Port) (path : Byte) (gain delay : BitVec 16) :
    FrameLength.Statement (.setPathGain p path gain delay) :=
  of_length (fun _ q k ps h => by cases h; simp)

theorem FrameLength.setIntercomMode (p : Port) (mode : Byte) : FrameLength.Statement (.setIntercomMode p mode) :=
  of_length (fun _ q k ps h => by cases h; simp)

theorem FrameLength.setIntercomMute (p : Port) (mute privacy : Byte) :
    FrameLength.Statement (.setIntercomMute p mute privacy) :=
  of_length (fun _ q k ps h => by cases h; simp)

theorem FrameLength.setTalkOverride (p : Port) (value : Byte) : FrameLength.Statement (.setTalkOverride p value) :=
  of_length (fun _ q k ps h => by cases h; simp)

theorem FrameLength.playTone (p : Port) (tone speaker : Byte) : FrameLength.Statement (.playTone p tone speaker) :=
  of_length (fun _ q k ps h => by cases h; simp)

theorem FrameLength.readIntercom (p : Port) : FrameLength.Statement (.readIntercom p) :=
  of_length (fun _ q k ps h => by cases h; simp)

theorem FrameLength.readNotices (p : Port) (option : Byte) : FrameLength.Statement (.readNotices p option) :=
  of_length (fun _ q k ps h => by cases h; simp)

theorem FrameLength.clearNotices (p : Port) (sources : BitVec 32) : FrameLength.Statement (.clearNotices p sources) :=
  of_length (fun _ q k ps h => by cases h; simp)

theorem FrameLength.setNoticeEnable (p : Port) (sources : BitVec 32) :
    FrameLength.Statement (.setNoticeEnable p sources) :=
  of_length (fun _ q k ps h => by cases h; simp)

theorem FrameLength.readRoutes (p : Port) : FrameLength.Statement (.readRoutes p) :=
  of_length (fun _ q k ps h => by cases h; simp)

theorem FrameLength.setRoute (p : Port) (source ports : Byte) : FrameLength.Statement (.setRoute p source ports) :=
  of_length (fun _ q k ps h => by cases h; simp)

theorem FrameLength.postMessage (p : Port) (target : Byte) (text : List Byte) :
    FrameLength.Statement (.postMessage p target text) :=
  of_length (fun hw q k ps h => by
    cases h
    have : text.length ≤ 59 := by simpa [Instr.wellFormed] using hw
    simp only [List.length_cons]
    omega)

theorem FrameLength.takeMessage (p : Port) : FrameLength.Statement (.takeMessage p) :=
  of_length (fun _ q k ps h => by cases h; simp)

theorem FrameLength.frameDiscarded (p : Port) (received : List Byte) :
    FrameLength.Statement (.frameDiscarded p received) :=
  of_length (fun _ q k ps h => by cases h)

theorem FrameLength.formatReply (p : Port) (received : List Byte) : FrameLength.Statement (.formatReply p received) :=
  of_length (fun _ q k ps h => by cases h)

theorem FrameLength.replyRead (p : Port) (clocked : Nat) : FrameLength.Statement (.replyRead p clocked) :=
  of_length (fun _ q k ps h => by cases h)

theorem FrameLength.distancePulse : FrameLength.Statement .distancePulse :=
  of_length (fun _ q k ps h => by cases h)

theorem FrameLength.windowClose (sense : LampSense) : FrameLength.Statement (.windowClose sense) :=
  of_length (fun _ q k ps h => by cases h)

theorem FrameLength.sealClose : FrameLength.Statement .sealClose :=
  of_length (fun _ q k ps h => by cases h)

theorem FrameLength.sealOpen : FrameLength.Statement .sealOpen :=
  of_length (fun _ q k ps h => by cases h)

theorem FrameLength.clockSecond : FrameLength.Statement .clockSecond :=
  of_length (fun _ q k ps h => by cases h)

theorem FrameLength.zoneWatchExpiry : FrameLength.Statement .zoneWatchExpiry :=
  of_length (fun _ q k ps h => by cases h)

theorem FrameLength.sessionExpiry : FrameLength.Statement .sessionExpiry :=
  of_length (fun _ q k ps h => by cases h)

theorem FrameLength.pinGuardExpiry : FrameLength.Statement .pinGuardExpiry :=
  of_length (fun _ q k ps h => by cases h)

theorem FrameLength.testTimerExpiry : FrameLength.Statement .testTimerExpiry :=
  of_length (fun _ q k ps h => by cases h)

theorem FrameLength.lampPhaseChange : FrameLength.Statement .lampPhaseChange :=
  of_length (fun _ q k ps h => by cases h)

theorem FrameLength.releaseTimerExpiry (path : AudioPath) : FrameLength.Statement (.releaseTimerExpiry path) :=
  of_length (fun _ q k ps h => by cases h)

theorem FrameLength.talkKeyPress (side : TalkSide) : FrameLength.Statement (.talkKeyPress side) :=
  of_length (fun _ q k ps h => by cases h)

theorem FrameLength.talkKeyRelease (side : TalkSide) : FrameLength.Statement (.talkKeyRelease side) :=
  of_length (fun _ q k ps h => by cases h)

theorem FrameLength.floorTimerExpiry : FrameLength.Statement .floorTimerExpiry :=
  of_length (fun _ q k ps h => by cases h)

theorem FrameLength.codecFrame (port : CodecSide) (mic : BitVec 16) : FrameLength.Statement (.codecFrame port mic) :=
  of_length (fun _ q k ps h => by cases h)

theorem FrameLength.toneEnd (port : CodecSide) (mic : BitVec 16) : FrameLength.Statement (.toneEnd port mic) :=
  of_length (fun _ q k ps h => by cases h)

theorem FrameLength.appendWriteStart : FrameLength.Statement .appendWriteStart :=
  of_length (fun _ q k ps h => by cases h)

theorem FrameLength.appendComplete : FrameLength.Statement .appendComplete :=
  of_length (fun _ q k ps h => by cases h)

theorem FrameLength.powerLoss (cut : PowerCut) : FrameLength.Statement (.powerLoss cut) :=
  of_length (fun _ q k ps h => by cases h)

theorem FrameLength.restart (levels : InputLevels) (backup : Backup) :
    FrameLength.Statement (.restart levels backup) :=
  of_length (fun _ q k ps h => by cases h)

end Sys2Proof.Laws
end

