-- ==== Sys2Proof/Laws/Ticks.lean ====
section
/-! SUPPORT. What an idle step does to each part of the state, so that later proofs need not unfold it. -/

namespace Sys2Proof.Machine

/-! ## One millisecond of the counters -/

@[simp] theorem State.advance_meas (s : State) : s.advance.meas = s.meas.tick := rfl
@[simp] theorem State.advance_table (s : State) : s.advance.table = s.table := rfl
@[simp] theorem State.advance_journal (s : State) : s.advance.journal = s.journal := rfl
@[simp] theorem State.advance_shift (s : State) : s.advance.shift = s.shift := rfl
@[simp] theorem State.advance_notices (s : State) : s.advance.notices = s.notices := rfl
@[simp] theorem State.advance_ports (s : State) : s.advance.ports = s.ports := rfl
@[simp] theorem State.advance_powered (s : State) : s.advance.powered = s.powered := rfl
@[simp] theorem State.advance_pending (s : State) : s.advance.pending = s.pending := rfl
@[simp] theorem State.advance_sign (s : State) : s.advance.sign = s.sign.tick := rfl
@[simp] theorem State.advance_pay (s : State) : s.advance.pay = s.pay.tick := rfl
@[simp] theorem State.advance_intercom (s : State) : s.advance.intercom = s.intercom.tick := rfl
@[simp] theorem State.advance_store (s : State) :
    s.advance.store = { s.store with zone := { s.store.zone with watch := tickTimer s.store.zone.watch } } := rfl

/-- The sign unit's own fields after a millisecond. -/
theorem Sign.tick_rest (g : Sign) :
    g.tick = { g with phase := (g.phase + 1) % 1000, test := tickTimer g.test, lamps := g.tick.lamps } := rfl

/-- A lamp after a millisecond: its period has moved on, and it is in step with its channel's phase (R149). -/
theorem Sign.tick_lamp (g : Sign) (i : Fin 4) :
    g.tick.lamps[i] = ({ g.lamps[i] with period := (g.lamps[i]).period.map (·.tick (onSlots g.level)) } : Lamp).settle
      (g.tick.channelLit i g.tick.lamps[i]) (onSlots g.level) := by
  unfold Sign.tick
  rw [← Sign.settleLamps_lit, Sign.settleLamps_lamp, Lamp.settle_period_isSome]
  congr 1
  simp [mapVector]

/-- A lamp runs a period after a millisecond exactly in its channel's on phase. -/
theorem Sign.tick_lit (g : Sign) (i : Fin 4) :
    (g.tick.lamps[i]).period.isSome = g.tick.channelLit i g.tick.lamps[i] := Sign.settleLamps_lit _ i

/-! ## The events of the crystal -/

/-- The parts that the clock second changes. -/
theorem clockSecond_frame (s : State) : ChangesOnly [.store] s (clockSecond s) := by
  intro c hc
  cases c <;> first | rfl | (simp at hc; done)

/-- The window closure that falls in the millisecond, if any. -/
theorem State.periodic_eq (s : State) :
    s.periodic =
      (let t := if s.windowMs = 0 then windowClose s.sign.sense s else s
       if s.secondMs = 0 then clockSecond t else t) := by
  have h : (if s.windowMs = 0 then windowClose s.sign.sense s else s).secondMs = s.secondMs := by
    split
    · exact windowClose_frame s.sign.sense s .secondMs (by decide)
    · rfl
  simp only [State.periodic, h]

/-- The parts that the events of a millisecond can change. -/
theorem State.periodic_frame (s : State) :
    ChangesOnly [.meas, .store, .table, .journal, .shift, .sign, .intercom, .notices] s s.periodic := by
  have h : ChangesOnly [.meas, .store, .table, .journal, .shift, .sign, .intercom, .notices] s
      (if s.windowMs = 0 then windowClose s.sign.sense s else s) := by
    split
    · exact windowClose_frame _ _
    · exact .same _ _
  rw [State.periodic_eq]
  simp only
  split
  · exact h.trans ((clockSecond_frame _).mono (by decide))
  · exact h

/-- What the taking of the seal input can be: nothing before 50 ms, and then the command of its level (R9). -/
theorem sealDebounced_cases (s : State) :
    (s.meas.sealPin.stable < Config.sealDebounceMs ∧ sealDebounced s = s) ∨
    (Config.sealDebounceMs ≤ s.meas.sealPin.stable ∧
      sealDebounced s = if s.meas.sealPin.level = .closed then sealClose s else sealOpen s) := by
  unfold sealDebounced
  split
  · next h => exact .inr ⟨h, by cases s.meas.sealPin.level <;> rfl⟩
  · next h => exact .inl ⟨Nat.lt_of_not_le h, rfl⟩

/-- What the taking of a key's input can be: nothing before 30 ms, and then its press or its release (R169). -/
theorem keyDebounced_cases (side : TalkSide) (s : State) :
    ((s.intercom.keyPins.get side).stable < Config.keyDebounceMs ∧ keyDebounced side s = s) ∨
    (Config.keyDebounceMs ≤ (s.intercom.keyPins.get side).stable ∧ keyDebounced side s =
      if (s.intercom.keyPins.get side).level then talkKeyPress side s else talkKeyRelease side s) := by
  unfold keyDebounced
  simp only
  split
  · next h => exact .inr ⟨h, rfl⟩
  · next h => exact .inl ⟨Nat.lt_of_not_le h, rfl⟩

/-- The parts that a change of the seal input can change. -/
theorem sealDebounced_frame (s : State) : ChangesOnly [.meas] s (sealDebounced s) := by
  obtain ⟨-, h⟩ | ⟨-, h⟩ := sealDebounced_cases s <;> rw [h]
  · exact .same _ _
  · split
    · exact sealClose_frame s
    · exact sealOpen_frame s

/-- The parts that a change of a key's input can change. -/
theorem keyDebounced_frame (side : TalkSide) (s : State) : ChangesOnly [.intercom, .notices] s (keyDebounced side s) := by
  obtain ⟨-, h⟩ | ⟨-, h⟩ := keyDebounced_cases side s <;> rw [h]
  · exact .same _ _
  · split
    · exact talkKeyPress_frame side s
    · exact talkKeyRelease_frame side s

/-- The parts that the changes of the debounced inputs can change. -/
theorem State.debounced_frame (s : State) : ChangesOnly [.meas, .intercom, .notices] s s.debounced :=
  (((sealDebounced_frame s).mono (by decide)).trans ((keyDebounced_frame .driver _).mono (by decide))).trans
    ((keyDebounced_frame .rear _).mono (by decide))

/-- A millisecond of a powered part whose queue is empty. -/
theorem tick_powered {s : State} (h : s.pending = []) (hp : s.powered = true) :
    tick s = { s.advance.periodic.debounced with pending := s.advance.periodic.debounced.expiries } := by
  have hq : s.advance.periodic.debounced.pending = [] := by
    rw [s.advance.periodic.debounced_frame .pending (by decide), s.advance.periodic_frame .pending (by decide)]
    exact h
  simp only [tick, hp, if_true, hq, List.nil_append]

/-- A part without power lets no time pass. -/
theorem tick_unpowered {s : State} (hp : s.powered = false) : tick s = s := by simp [tick, hp]

end Sys2Proof.Machine
end

