-- ==== Sys2Proof/Tests/Slice0.lean ====
section
/-! SUPPORT. The model's own tests: the refusals of well-formedness, words of the port, the manual's worked sequences one
event at a time, and for each obligation with premises a state and operands that meet them. -/

namespace Sys2Proof.Tests

open Sys2Proof.Machine

/-! ## Sample states -/

/-- The state after a command. -/
def after (c : Instr) (s : State) : State :=
  match exec c s with
  | .next t => t
  | _ => s

/-- The status byte that stands in a port's reply buffer. -/
def statusAt (p : Port) (s : State) : Option Byte := (s.ports.get p).reply.bind (fun r => r.frame.head?)

/-- The result bytes that stand in a port's reply buffer. -/
def resultsAt (p : Port) (s : State) : List Byte :=
  match (s.ports.get p).reply with
  | some r => r.frame.drop 4
  | none => []

/-- A part without main power. -/
def dead : State := { State.reset with powered := false }

/-- An OPEN shift, every slot VACANT. -/
def opened : State :=
  { State.reset with
    shift := { Shift.delivery with state := .opened, driver := some 40215, openTime := some ⟨0, true⟩ }
    sign := State.reset.sign.enter .free }

/-- A party on tariff 1 that owes 5,000. -/
def rider (st : PartyState) : Party :=
  { newParty State.reset.store 1 none with state := st, joining := false, fare := 5000, stopTime := some ⟨0, true⟩ }

/-- An OPEN shift with that party in slot 0. -/
def carrying (p : Party) : State := { opened.setParty 0 (some p) with shift := opened.shift }

/-- The part on an OPEN shift with its timers at given values: zone watch, lamp test, PIN guard, floor. -/
def timed (n : Nat) : State :=
  { opened with
    store := { opened.store with zone := { opened.store.zone with known := true, watch := some n } }
    pay := { opened.pay with guardTimer := some n }
    sign := { opened.sign with test := some n }
    intercom := { opened.intercom with floor := some .driver, floorTimer := some n, paths :=
      ⟨{ opened.intercom.paths.frontToRear with gate := .releasing n }, opened.intercom.paths.rearToFront⟩ } }

/-- The open session of that party. -/
def ticket : Session :=
  { slot := 0, hire := 1, payment := 1, requested := 5000, allowance := 20000, timeLeft := 120000, pinEntry := false }

/-- A party that pays under an open session. -/
def paying (tenders : List Tender) : State :=
  let s := carrying { rider .paying with tenders := tenders, payment := some 1 }
  { s with pay := { s.pay with session := some ticket, counter := 2 } }

/-- The same with a given time left to the session's deadline. -/
def expiring (left : Nat) : State :=
  { paying [] with pay := { (paying []).pay with session := some { ticket with timeLeft := left } } }

/-- A STOPPED party whose session ended with a cause. -/
def ended (cause : CloseCause) : State :=
  let s := carrying (rider .stopped)
  { s with pay := { s.pay with recent := [{ payment := 1, slot := 0, hire := 1, cause := cause }], counter := 2 } }

/-- A journal without a free place. -/
def crowded (s : State) : State := { s with journal := { s.journal with places := List.replicate 4 (.tariff 0 0) } }

/-- The write of an entry in flight. -/
def writing (s : State) (b : EntryBody) : State := { s with journal := { s.journal with places := [b], inFlight := true } }

/-- A calibration run in a state. -/
def calibrating (r : CalRun) : State := State.reset.setRun r

/-- A staged set that passes the commit's checks, with the stage in a state. -/
def staging (st : Stage) : State :=
  { State.reset with store := { State.reset.store with staged := TariffSet.delivery, stage := st } }

/-- An intercom state with its floor, claimant, rear key and driver key. -/
def talking (floor claimant : Option TalkSide) (driver rear : Bool) : State :=
  { State.reset with intercom := { State.reset.intercom with
      floor := floor, claimant := claimant, floorTimer := floor.map (fun _ => 60000), keys := ⟨driver, rear⟩ } }

/-- The part with its seal input closed for `a` ms and both talk keys held for `b` ms, the keys' inputs at given levels
from then on. -/
def held (a b : Nat) (coming : List Bool) : State :=
  { State.reset with
    meas := { State.reset.meas with sealPin := { level := .closed, stable := a, coming := [] } }
    intercom := { State.reset.intercom with
      keyPins := ⟨{ level := true, stable := b, coming := coming }, { level := true, stable := b, coming := coming }⟩ } }

/-- A speaker playing a tone, with tones waiting. -/
def sounding (given : Nat) (waiting : List Tone) : State :=
  { State.reset with intercom := { State.reset.intercom with
      speakers := ⟨Speaker.restarted, { Speaker.restarted with playing := some ⟨.start, given⟩, waiting := waiting }⟩ } }

/-- The fields of a tariff item (R203): flag fall 300, 5 prepaid steps, 20 cents, 100 m, 20 s, SINGLE, weights 256, 160, 1, 1. -/
def tariffWord : BitVec 176 :=
  fieldWord [44, 1, 0, 0, 5, 20, 0, 0, 0, 100, 0, 20, 0, 0, 0, 1, 160, 0, 1, 0, 1, 0]

/-- Tariff 1 of the worked sequences (3.9). -/
def tariff1 : Tariff :=
  { flagFall := 300, prepaid := 5, stepAmount := 20, distanceStep := 100, timeStep := 20, mode := .single
    f1 := 256, f2 := 160, f3 := 1, f4 := 1 }

/-- The active set of the worked sequences: tariff 1 and tariff 3, extra kind 2 and zone rule 1 (3.9). -/
def workedSet : TariffSet :=
  { TariffSet.delivery with
    tariffs := (TariffSet.delivery.tariffs.set (0 : Fin 8) (some tariff1)).set (2 : Fin 8)
      (some { tariff1 with flagFall := 500, prepaid := 0, stepAmount := 30, distanceStep := 125 })
    extraKinds := TariffSet.delivery.extraKinds.set (1 : Fin 8)
      (some { cls := .surcharge, amount := 450, permitted := ⟨true, false, false⟩ })
    zoneRules := TariffSet.delivery.zoneRules.set (0 : Fin 16)
      (some { value := 0x4100#16, mask := 0xFF00#16, day := some 2, night := some 2, holiday := some 2
              entryExtra := some 1 }) }

/-- A part in an OPEN shift on that set, in a zone, with `p` pulses counted and a party in slot 0. -/
def metering (zone : BitVec 16) (p : Nat) (x : Party) : State :=
  let s := carrying x
  { s with
    meas := { s.meas with raw := p }
    store := { s.store with active := workedSet, zone := { s.store.zone with known := true, lastCode := some zone } } }

/-- A party of the worked sequences, with its progress, steps, prepaid steps left and fare. -/
def metered (progress steps prepaid fare : Nat) : Party :=
  { rider .running with progress := progress, steps := steps, prepaid := prepaid, fare := fare }

/-! ## Well-formedness -/

theorem test_wellFormed_text : (Instr.postMessage .console 1 (List.replicate 60 65)).wellFormed = false := by decide

theorem test_wellFormed_partial : (Instr.frameDiscarded .console [1, 0]).wellFormed = false := by decide

theorem test_wellFormed_format : (Instr.formatReply .console [1, 0]).wellFormed = false := by decide

/-! ## Selections of a port (R195, R196, R200, R201, R203) -/

/-- SET_STOP_INTERLOCK 100: kind 2, 2 parameter bytes, 64H 00H. -/
theorem test_decode_setStopInterlock :
    decodeSelection .fleet [2, 2, 0x64, 0] = some (.setStopInterlock .fleet 100) := by decide

/-- PAY_RESULT 37 APPROVED_OFFLINE of 3,500, reference 40172255 (5.11): kind 30, 15 parameter bytes. -/
theorem test_decode_payResult :
    decodeSelection .partition [30, 15, 37, 0, 0, 0, 0, 0, 1, 0xAC, 0x0D, 0, 0, 0xDF, 0xFA, 0x64, 0x02] =
      some (.payResult .partition 37 0 1 3500#32 40172255#32) := by decide +kernel

/-- A first byte of 0 makes a reply read of the bytes after it. -/
theorem test_decode_replyRead : decodeSelection .console [0, 0, 0, 0, 0] = some (.replyRead .console 4) := by decide

/-- A frame cut short is discarded; an unknown kind and a wrong length are answered FORMAT. -/
theorem test_decode_malformed :
    decodeSelection .fleet [2, 2, 0x64] = some (.frameDiscarded .fleet [2, 2, 0x64]) ∧
    decodeSelection .fleet [61, 0] = some (.formatReply .fleet [61, 0]) ∧
    decodeSelection .fleet [2, 1, 0x64] = some (.formatReply .fleet [2, 1, 0x64]) := by decide

/-- The field bytes of a tariff item carry its record (R203). -/
theorem test_tariffFields : tariffOf tariffWord = some tariff1 := by decide +kernel

/-! ## The manual's worked sequences, one event each -/

/-- 1.7, closure 1: p = 5, window speed 300, smoothed 150; the vehicle counts as moving. -/
theorem test_window_first :
    let t := after (.windowClose ⟨true, true, true, true⟩) { opened with meas := { opened.meas with raw := 5 } }
    t.meas.last = { charged := 5, excess := 0, windowSpeed := 300, smoothed := 150 } ∧ t.meas.moving = true := by
  decide +kernel

/-- 1.7, closure 5: an overrun window caps its speed at 9,999, and the shift gains 600 excess pulses and 1 window. -/
theorem test_window_overrun :
    let t := after (.windowClose ⟨true, true, true, true⟩)
      { opened with meas := { opened.meas with raw := 2600, last := ⟨3, 0, 180, 90⟩ } }
    t.meas.last = { charged := 2000, excess := 600, windowSpeed := 9999, smoothed := 5090 } ∧
    t.shift.counters.excessPulses = 600 ∧ t.shift.counters.overruns = 1 := by decide +kernel

/-- 1.7: 6,120 pulses over 1,000 m make K 6,120. -/
theorem test_calMark_done :
    (after (.calMark .console) (calibrating (.counting 1000 6120))).meas.run = .done 1000 6120 6120 := by decide

/-- 1.7: 2,400 pulses over 5,000 m make K 480, which fails. -/
theorem test_calMark_failed :
    let t := after (.calMark .console) (calibrating (.counting 5000 2400))
    t.meas.run = .failed 5000 2400 480 ∧ statusAt .console t = some 4 := by decide

/-- 1.7: the stored CALIBRATION entry makes K 6,120, ceiling 2,500, count 4. -/
theorem test_calibration_stored :
    (after .appendComplete (writing (calibrating (.adopting 1000 6120 6120 (some 2500)))
      (.calibration 6000 6120 2000 2500 4))).meas.cal = { k := 6120, ceiling := 2500, count := 4, interlock := 100 } := by
  decide

/-- 2.6: 4123H by day selects tariff 3 by rule 1; pinned to the absent tariff 7 it selects tariff 1. -/
theorem test_selection :
    (metering 0x4123 0 (rider .running)).store.selectTariff none = 2 ∧
    (metering 0x3100 0 (rider .running)).store.selectTariff none = 0 ∧
    (metering 0x4123 0 (rider .running)).store.selectTariff (some 6) = 0 := by decide

/-- 2.6: clock value 800,000,000 is minute 373 of its day, outside the night band 1,320 to 360. -/
theorem test_period :
    minuteOfDay 800000000 = 373 ∧ inNightBand 1320 360 373 = false ∧ inNightBand 1320 360 359 = true ∧
    inNightBand 1320 360 360 = false := by decide

/-- 2.6: a holiday flag clears when the clock reaches 800,064,000, the next day. -/
theorem test_clockSecond_newDay :
    (after .clockSecond { State.reset with store := { State.reset.store with
      clock := 800063999, clockInvalid := false, holiday := true } }).store.holiday = false := by decide

/-- 3.9, closure 102: alone at p = 5 a party gains 25,600,000,000. -/
theorem test_charge_alone :
    ((after (.windowClose ⟨true, true, true, true⟩) (metering 0x3100 5 (metered 0 0 5 300))).party 0).map
      (fun x => (x.progress, x.steps, x.prepaid, x.fare)) = some (25600000000, 0, 5, 300) := by decide

/-- 3.9, closure 821: the sixth step is the first paid one, and the fare becomes 320. -/
theorem test_charge_paidStep :
    ((after (.windowClose ⟨true, true, true, true⟩) (metering 0x3100 5 (metered 3046400000000 5 0 300))).party 0).map
      (fun x => (x.progress, x.steps, x.prepaid, x.fare)) = some (0, 6, 0, 320) := by decide

/-- 3.9, entering the airport zone: closure k switches to tariff 3 and charges the entry extra once. -/
theorem test_zoneEntry :
    ((after (.windowClose ⟨true, true, true, true⟩) (metering 0x4123 5 (metered 1536000000000 12 0 440))).party 0).map
      (fun x => [x.progress, x.steps, x.fare, x.current.val, x.switches, x.due, x.chargedRules.toNat]) =
        some [0, 12, 440, 2, 1, 890, 1] := by decide

/-- 3.9, DOUBLE mode: a closure with p = 5 adds both contributions. -/
theorem test_contribution_double :
    ({ tariff1 with distanceStep := 50, timeStep := 10, mode := .double } : Tariff).contribution 6000 5 1 =
      20480000000 := by decide

/-- 3.9, saturation: 3 steps of 20 on a fare of 9,999,960 saturate it. -/
theorem test_saturation :
    let x := (metered 0 0 0 9999960).complete 3 20
    x.fare = 9999999 ∧ x.saturated = true ∧ ((metered 0 0 0 9999959).complete 2 20).saturated = false := by decide

/-- 4.11: the first START_HIRE fills slot 0, takes the next hire number and lights SHARE_OPEN. -/
theorem test_startHire :
    let t := after (.startHire .console 0) opened
    statusAt .console t = some 0 ∧ (t.party 0).map (·.hire) = some 1 ∧ t.table.nextHire = some 2 ∧
    t.sign.state = .shareOpen := by decide

/-- 4.11: with the seat limit reached START_HIRE is answered FULL. -/
theorem test_startHire_full :
    let s := carrying (rider .running)
    statusAt .console (after (.startHire .console 0) { s with table := { s.table with seatLimit := 1 } }) = some 5 := by
  decide

/-- 3.9: while moving, STOP_HIRE is refused with MOVING. -/
theorem test_stopHire_moving :
    let s := carrying (rider .running)
    statusAt .console (after (.stopHire .console 0)
      { s with meas := { s.meas with last := ⟨0, 0, 0, 150⟩ } }) = some 8 := by decide

/-- 5.11: the requested tip of 1,000 on a fare of 2,460 is clamped to 738. -/
theorem test_payTip_clamped :
    let s := paying []
    let t := after (.payTip .partition 1 0 1000) (s.setParty 0 (some { rider .paying with fare := 2460, payment := some 1 }))
    statusAt .partition t = some 1 ∧ (t.party 0).map (·.tip) = some 738 := by decide

/-- 5.11: cash above the amount remaining closes the party and returns the rest as change. -/
theorem test_cashSettle :
    let t := after (.cashSettle .console 0 5500) (carrying (rider .stopped))
    (t.party 0).map (·.state) = some .closing ∧ t.journal.queued = 1 ∧
    resultsAt .console t = u32 5000 ++ u32 500 ++ u32 0 ++ u8 4 := by decide

/-- 5.11: a late approval for a party that is CLOSING is answered CONFLICT and kept as an orphan approval. -/
theorem test_late_conflict :
    let s := ended .expired
    let t := after (.payResult .partition 1 0 0 2000 71100463) (s.setParty 0 (some (rider .closing)))
    statusAt .partition t = some 10 ∧ t.journal.queued = 1 ∧ t.shift.counters.orphans = 1 ∧
    t.pay.recent.map (·.cause) = [.result] := by decide

/-- 7.9: the counters 18,450 and 1,200 at 400 per mille make a share of 7,860 and 1,090 owed. -/
theorem test_report :
    let r : ShiftReport :=
      { number := 57, driver := 40215, openTime := ⟨0, false⟩, closeTime := none, limitReached := false, k := 6000, rate := 400
        counters := { Counters.zero with
          fareTotal := 18450, surcharges := 1200, tips := 350, cash := 9300, hiredPulses := 187500, totalPulses := 312345 } }
    r.hiredMetres = 31250 ∧ r.totalMetres = 52057 ∧ r.base = 19650 ∧ r.share = 7860 ∧ r.netOwed = 1090 := by decide

/-- R143: a hired remainder that a smaller K leaves above it is carried at the next closure, charged party or none. -/
theorem test_hiredCarry :
    ({ Shift.delivery.totals with hiredRemainder := 5900 } : Totals).carry 5000 7 false =
      { Shift.delivery.totals with hiredDistance := 1, hiredRemainder := 900, distance := 1, totalRemainder := 2000 } := by
  decide +kernel

/-- 7.9, metre carry: 4,500 and 5 pulses carry one metre and leave 3,500; 5,900 under K 5,000 carries one, leaves 900. -/
theorem test_metreCarry :
    carriedMetres 4500 6000 5 = 1 ∧ carriedRemainder 4500 6000 5 = 3500 ∧ carriedMetres 5900 5000 0 = 1 ∧
    carriedRemainder 5900 5000 0 = 900 := by decide

/-- 8.7: a third dark sample latches the HIRED lamp's fault, a fourth changes nothing. -/
theorem test_lampLatch :
    ({ Lamp.restarted with dark := 2 } : Lamp).sample true false = { Lamp.restarted with dark := 3, latch := true } ∧
    ({ Lamp.restarted with dark := 3, latch := true } : Lamp).sample true false =
      { Lamp.restarted with dark := 3, latch := true } := by decide

/-- R149 and R150: a level of 40 drives 102 slots, from the next modulation period: the period that runs keeps its 256. -/
theorem test_brightness_nextPeriod :
    let t := after (.setBrightness .console 40 40) opened
    (t.sign.lamps[(0 : Fin 4)]).period = some ⟨0, 256⟩ ∧
    (t.advance.sign.lamps[(0 : Fin 4)]).period = some ⟨250, 256⟩ ∧
    (t.advance.advance.sign.lamps[(0 : Fin 4)]).period = some ⟨244, 102⟩ ∧
    (t.advance.advance.sign.lamps[(0 : Fin 4)]).driven = false ∧
    (opened.sign.lamps[(1 : Fin 4)]).driven = false := by decide

/-- R92 and R101: an ENTRY taken before a queued expiry renews the deadline, and the session stays open. -/
theorem test_expiry_renewed :
    (after .sessionExpiry (after (.pinState .partition 1) (expiring 0))).pay.session.map (·.timeLeft) = some 120000 ∧
    (after .sessionExpiry (expiring 0)).pay.session = none := by decide

/-- R33 and R36: a GOOD report taken before a queued expiry restarts the watch timer, and the zone stays KNOWN. -/
theorem test_watch_restarted :
    (after .zoneWatchExpiry (after (.zoneReport .fleet 0x3100 0) (timed 0))).store.zone.known = true ∧
    (after .zoneWatchExpiry (timed 0)).store.zone.known = false := by decide

/-- 9.9: a rear press with the driver holding the floor is a claim, and the driver's release grants it. -/
theorem test_floor :
    let c := after (.talkKeyPress .rear) (talking (some .driver) none true false)
    c.intercom.claimant = some .rear ∧ (after (.talkKeyRelease .driver) c).intercom.floor = some .rear := by decide

/-- R169: a key held through a restart is pressed in the 30th millisecond after it, and not in the 29th. -/
theorem test_keyHeldThroughRestart :
    (after (.restart ⟨.opened, true, false⟩ (.failed 50)) State.reset).intercom.keyPins.driver = ⟨true, 0, []⟩ ∧
    (tick (held 0 28 [])).intercom.keys.driver = false ∧ (tick (held 0 29 [])).intercom.keys.driver = true ∧
    (tick (held 0 29 [])).intercom.floor = some .driver ∧ (tick (held 0 29 [])).intercom.claimant = some .rear := by
  decide +kernel

/-- R169: an excursion shorter than 30 ms is not taken; R9: a closing is taken at 50 ms. -/
theorem test_excursion :
    (tick (held 0 29 [false, true])).intercom.keys.driver = false ∧
    (tick (held 0 29 [false, true])).intercom.keyPins.driver = ⟨false, 0, [true]⟩ ∧
    (tick (held 48 0 [])).meas.sealState = .opened ∧ (tick (held 49 0 [])).meas.sealState = .closed := by decide +kernel

/-- R154: cancelling a test lets a lamp forced on go on in its period where it is STEADY in the new state (log 25). -/
theorem test_cancelTest :
    let s := (after (.lampTest .console 0 1 0 1) opened).advance
    let t := after (.startHire .console 0) s
    (s.sign.lamps[(1 : Fin 4)]).period = some ⟨250, 256⟩ ∧ t.sign.lamps.toArray.toList.map (fun l => (l.override, l.period)) =
      [(.normal, none), (.normal, some ⟨250, 256⟩), (.normal, some ⟨0, 256⟩), (.normal, none)] := by decide +kernel

/-- 9.9: the APPROVED tone lasts 4,000 frames. -/
theorem test_toneFrames : toneFrames .approved = 4000 ∧ toneFrames .declined = 6400 := by decide

/-- R162: a sample of 1,000 at gain 384 is 1,500; the product is held within 16 bits. -/
theorem test_scale : scaleSample 384 1000 = 1500 ∧ scaleSample 1023 32767 = 32767 ∧ scaleSample 256 (-1) = -1 := by decide

/-- R191: clearing the route of PAYMENT_RESULT leaves its minimum, the console, and says so. -/
theorem test_setRoute_minimum :
    let t := after (.setRoute .fleet 4 0) State.reset
    statusAt .fleet t = some 1 ∧ t.notices.routes[3] = ⟨true, false, false⟩ := by decide

/-- A restart of the part at reset, the clock's backup supply failed, leaves it at reset (log 1). -/
theorem test_restart_reset : after (.restart ⟨.opened, false, false⟩ (.failed 50)) State.reset = State.reset := by decide

/-- R29: the clock's seconds run on through a restart and are not aligned with the windows, which a restart begins: 900 ms into
a second, and 7,250 ms later, the clock is 8 s on and 150 ms into the next second. -/
theorem test_restart_phase :
    let t := after (.restart ⟨.opened, false, false⟩ (.held 7250)) { State.reset with secondMs := 900 }
    t.store.clock = 8 ∧ t.secondMs = 150 ∧ t.windowMs = 0 ∧ State.reset.secondMs % 100 ≠ State.reset.windowMs := by decide

/-- The window closes in its 100th millisecond, and a timer that has run out queues its expiry (log 3). -/
theorem test_tick_closure :
    (tick { State.reset with windowMs := 99 }).meas.closure = 1 ∧ (tick State.reset).meas.closure = 0 ∧
    (tick (timed 1)).pending = [.zoneWatchExpiry, .pinGuardExpiry, .testTimerExpiry, .releaseTimerExpiry .frontToRear,
      .floorTimerExpiry] ∧ (tick (expiring 1)).pending = [.sessionExpiry] ∧ (tick (timed 2)).pending = [] := by
  decide +kernel

/-- R195: a request write leaves 0 on the data output, whatever a reply read had given. -/
theorem test_dataOut :
    let t := after (.replyRead .console 4) (after (.readRoutes .console) State.reset)
    (t.ports.get .console).dataOut = .bytes [0, 57, 40, 0] ∧
    ((after (.frameDiscarded .console [1]) t).ports.get .console).dataOut = .zeros := by decide

/-! ## States and operands that meet the premises of the statements -/

theorem witness_IdleStepIsOneMillisecond :
    dead.pending = [] ∧ dead.powered = false ∧ (timed 1).pending = [] ∧ (timed 1).powered = true ∧
    ((timed 1).sign.lamps[(1 : Fin 4)]).period = none ∧ ((timed 1).sign.lamps[(0 : Fin 4)]).period = some ⟨0, 256⟩ ∧
    (timed 1).advance.sign.channelLit 0 (timed 1).advance.sign.lamps[(0 : Fin 4)] = true ∧
    (after (.setOnCall .fleet 1) opened).advance.sign.channelLit 1
      (after (.setOnCall .fleet 1) opened).advance.sign.lamps[(1 : Fin 4)] = false ∧
    (held 49 29 []).pending = [] ∧ (held 49 29 []).powered = true := by decide

theorem witness_UnpoweredPartTakesNothing : dead.powered = false ∧ ∀ l b, Instr.distancePulse ≠ .restart l b :=
  ⟨rfl, fun _ _ h => nomatch h⟩

theorem witness_RoleIsCheckedForEveryRequest :
    Instr.request? (.setDuty .fleet 0) = some (.fleet, .setDuty, [0]) ∧ (Kind.ports .setDuty).has .fleet = false := by
  decide

theorem witness_EachRequestIsAnsweredAtItsPort :
    Instr.request? (.journalRead .partition 1) = some (.partition, .journalRead, [1, 0, 0, 0]) ∧
    State.reset.powered = true := by decide

/-- The premises of `RefusedRequestsChangeNothing` for a command, its port, its kind and a refusing status. -/
abbrev Refused (c : Instr) (p : Port) (k : Kind) (st : Status) (s : State) : Prop :=
  c.request?.map (fun r => (r.1, r.2.1)) = some (p, k) ∧
  ((after c s).ports.get p).reply = some { frame := replyFrame st k.code [], position := 0 }

theorem witness_RefusedRequestsChangeNothing :
    Refused (.setDuty .fleet 0) .fleet .setDuty .role State.reset ∧
    Refused (.startHire .console 0) .console .startHire .state State.reset ∧
    Refused (.calBegin .console 1000) .console .calBegin .sealed (after .sealClose State.reset) ∧
    Refused (.startHire .console 0) .console .startHire .busy (after (.shiftClose .console) opened) ∧
    Refused (.stopHire .console 0) .console .stopHire .moving
      { carrying (rider .running) with meas := { State.reset.meas with last := ⟨0, 0, 0, 101⟩ } } ∧
    Refused (.stopHire .console 0) .console .stopHire .locked (paying []) ∧
    exec (.setDuty .fleet 0) State.reset = .next (after (.setDuty .fleet 0) State.reset) :=
  ⟨by decide, by decide, by decide, by decide, by decide, by decide, rfl⟩

theorem witness_RequestFramesDecode :
    Instr.wellFormed (.postMessage .fleet 1 [72, 105]) = true ∧
    Instr.request? (.postMessage .fleet 1 [72, 105]) = some (.fleet, .postMessage, [1, 72, 105]) ∧
    requestFrame (.postMessage .fleet 1 [72, 105]) = some [59, 3, 1, 72, 105] := by decide

theorem witness_PulsesAreCounted : (calibrating (.counting 1000 4294967295)).powered = true := by decide

theorem witness_CalibrationRunIsMarked :
    (State.reset.meas.run = .idle ∧ State.reset.meas.sealState = .opened ∧ State.reset.shift.state = .closed ∧
      State.reset.nonVacant = 0 ∧ 100 ≤ (100#16).toNat ∧ (5000#16).toNat ≤ 5000) ∧
    (calibrating (.failed 100 1 1)).meas.run = .failed 100 1 1 ∧
    (calibrating (.ready 100)).meas.run = .ready 100 ∧
    (calibrating (.counting 1000 500)).meas.run = .counting 1000 500 ∧
    ((500 * 1000 + 1000 / 2) / 1000 = 500 ∧ (50000 * 1000 + 1000 / 2) / 1000 = 50000 ∧
      (499 * 1000 + 1000 / 2) / 1000 < 500 ∧ 50000 < (50001 * 1000 + 1000 / 2) / 1000) ∧
    (calibrating (.done 1000 6000 6000)).meas.run.isAdopting = false := by decide

theorem witness_AdoptionIsQueuedAndTheSealMoves :
    let s := calibrating (.done 1000 6120 6120)
    let a := calibrating (.adopting 1000 6120 6120 none)
    s.meas.run = .done 1000 6120 6120 ∧ (4095#16).toNat ≤ 4095 ∧ (0#16).toNat ≤ 4095 ∧ s.meas.sealState = .opened ∧
    s.shift.state = .closed ∧ s.nonVacant = 0 ∧ 1 ≤ s.journal.free ∧ s.journal.places.length < 4 ∧
    s.meas.run.isAdopting = false ∧ a.meas.run.isAdopting = true := by decide

theorem witness_SettingsAreReplacedInRange :
    State.reset.powered = true ∧ (300#16).toNat ≤ 300 ∧ ¬(301#16).toNat ≤ 300 := by decide

theorem witness_WindowResultIsFormed :
    let s := { opened with meas := { opened.meas with raw := 2001 } }
    s.powered = true ∧ s.shift.state = .opened ∧ s.meas.cal.ceiling < s.meas.raw ∧ State.reset.shift.state ≠ .opened := by
  decide

theorem witness_ChargedPartyAdvances :
    let s := metering 0x3100 5 (metered 3046400000000 5 0 9999979)
    let x := metered 3046400000000 5 0 9999979
    s.powered = true ∧ s.party 0 = some x ∧ x.state = .running ∧ x.joining = false ∧
    s.store.active.tariffs[x.current] = some tariff1 ∧
    s.slotList.countP isCharged = 1 ∧ x.fare + 1 * tariff1.stepAmount ≤ moneyMax ∧
    moneyMax < x.fare + 2 * tariff1.stepAmount := by decide

theorem witness_PartiesJoinAndAreReselected :
    let x : Party := { rider .running with joining := true }
    (carrying (rider .stopped)).party 0 = some (rider .stopped) ∧ (rider .stopped).state ≠ .running ∧
    (carrying (rider .stopped)).party 1 = none ∧ (carrying x).party 0 = some x ∧ x.state = .running ∧ x.joining = true := by
  decide

theorem witness_EntryExtraIsChargedOnce :
    let s := metering 0x4123 5 (metered 0 0 0 0)
    let full : Party := { metered 0 0 0 0 with extras := List.replicate 8 ⟨0, .surcharge, 1⟩ }
    let rule : ZoneRule := ⟨0x4100#16, 0xFF00#16, some 2, some 2, some 2, some 1⟩
    s.party 0 = some (metered 0 0 0 0) ∧ (metered 0 0 0 0).state = .running ∧
    s.store.matchingRule = some (1, rule) ∧ rule.entryExtra = some 1 ∧
    s.store.active.extraKinds[(1 : Fin 8)] = some ⟨.surcharge, 450, ⟨true, false, false⟩⟩ ∧
    (metered 0 0 0 0).chargedRules &&& (1#16 <<< 0) = 0 ∧ full.chargedRules &&& (1#16 <<< 0) = 0 ∧
    8 ≤ full.extras.length ∧ { full with chargedRules := 1#16 }.chargedRules &&& (1#16 <<< 0) ≠ 0 ∧
    (metering 0x3100 5 full).store.matchingRule = none := by decide

theorem witness_PulsesBecomeMetres :
    let s := metering 0x3100 5 (metered 0 0 0 0)
    s.powered = true ∧ 0 < s.meas.cal.k ∧ s.shift.state = .opened ∧ 1 ≤ s.slotList.countP isCharged ∧
    opened.slotList.countP isCharged = 0 ∧ opened.powered = true ∧ 0 < opened.meas.cal.k := by decide

theorem witness_ArmedSetActivates :
    let s := staging (.armed 7)
    s.store.stage = .armed 7 ∧ s.nonVacant = 0 ∧ 1 ≤ s.journal.free ∧ s.journal.places.length < 4 ∧
    4 ≤ (crowded s).journal.places.length := by decide

theorem witness_LampsAndCodecsAreJudged :
    opened.sign.channelLit 0 opened.sign.lamps[(0 : Fin 4)] = true ∧
    opened.sign.channelLit 1 opened.sign.lamps[(1 : Fin 4)] = false ∧ senseAt ⟨true, true, true, true⟩ 0 = true ∧
    senseAt ⟨false, true, true, true⟩ 0 = false ∧ (opened.intercom.codecs.get .front).fault = true ∧
    opened.shift.state = .opened ∧ State.reset.shift.state ≠ .opened ∧
    (after (.lampTest .console 1 2 0 0) State.reset).sign.lamps.toArray.toList.map (·.override) =
      [.on, .off, .normal, .normal] ∧
    (let frames := fun n : Nat => ({ Codec.restarted with frames := n, fault := false } : Codec)
     (frames 1584).frames = 1584 ∧ (frames 1616).frames = 1616 ∧ ¬(1584 ≤ (frames 1583).frames ∧ (frames 1583).frames ≤ 1616) ∧
     ¬(1584 ≤ (frames 1617).frames ∧ (frames 1617).frames ≤ 1616) ∧ (frames 1584).fault = false) ∧
    (opened.sign.lamps[(0 : Fin 4)]).override = .normal ∧ opened.sign.state = .free := by decide

theorem witness_StagedSetIsLoaded :
    (staging .loading).store.stage = .loading ∧ (staging .loading).store.stage.isActivating = false ∧
    (staging .loading).store.staged.commitFailure = none ∧ (8#8).toNat = (7 : Fin 8).val + 1 ∧
    (16#8).toNat = (15 : Fin 16).val + 1 ∧
    (extraKindOf 0x01000001C200#176).isSome = true ∧ (zoneRuleOf 0x0101FF004100#176).isSome = true ∧
    (defaultsOf 0x010101#176 TariffSet.empty).isSome = true ∧
    (staging (.activating 7)).store.stage = .activating 7 ∧ State.reset.store.stage ≠ .loading ∧ 3 < (4#8).toNat ∧
    1 < (2#8).toNat ∧ (0#8).toNat < 1 ∧ 8 < (9#8).toNat ∧ 16 < (17#8).toNat ∧ tariffOf 0 = none ∧
    extraKindOf 0x020000000000#176 = none ∧ zoneRuleOf 0x0900000000#176 = none ∧ defaultsOf 0 TariffSet.empty = none ∧
    TariffSet.empty.commitFailure = some (1, 1) := by decide +kernel

/-- A set that fails each check of a commit: no tariff 1, each default absent, a rule's tariff absent, a rule's entry
extra absent. -/
theorem witness_CommitChecksTheWholeSet :
    let here := fun (t : TariffSet) (n : TariffNo) => (t.tariffs[n]).isSome
    let d := TariffSet.delivery
    let rule : ZoneRule := ⟨0#16, 0#16, some 1, none, none, some 1⟩
    here TariffSet.empty 0 = false ∧ here d 0 = true ∧ here d d.defaultDay = true ∧ here d d.defaultNight = true ∧
    here d d.defaultHoliday = true ∧ here { d with defaultDay := 1 } 1 = false ∧ here { d with defaultNight := 1 } 1 = false ∧
    here { d with defaultHoliday := 1 } 1 = false ∧
    { d with zoneRules := d.zoneRules.set 0 (some rule) }.zoneRules[(0 : Fin 16)] = some rule ∧ rule.day = some 1 ∧
    here d 1 = false ∧ rule.entryExtra = some 1 ∧ d.extraKinds[(1 : Fin 8)] = none ∧ d.commitFailure = none := by decide

theorem witness_SelectionFollowsPinRulePeriod :
    let t := (metering 0x4123 0 (rider .running)).store
    let rule : ZoneRule := ⟨0x4100#16, 0xFF00#16, some 2, some 2, some 2, some 1⟩
    t.matchingRule.isSome = true ∧ (metering 0x3100 0 (rider .running)).store.matchingRule = none ∧
    t.zone.known = true ∧ t.zone.lastCode = some 0x4123#16 ∧ t.active.zoneRules[(0 : Fin 16)] = some rule ∧
    0x4123#16 &&& rule.mask = rule.value &&& rule.mask ∧ ¬0x3100#16 &&& rule.mask = rule.value &&& rule.mask ∧
    (∀ i : Fin 16, i ≠ 0 → t.active.zoneRules[i] = none) ∧ State.reset.store.zone.known = false ∧
    t.clockInvalid = true ∧ { t with clockInvalid := false }.holiday = false ∧
    { t with clockInvalid := false, holiday := true }.holiday = true := by decide

theorem witness_ClockAndZoneAreFollowed :
    let valid := fun n : Nat => { State.reset with store := { State.reset.store with clock := n, clockInvalid := false } }
    (valid (max32 - 1)).store.clock < max32 ∧ (valid max32).store.clock = max32 ∧
    (valid max32).store.clockInvalid = false ∧ State.reset.store.clockInvalid = true ∧
    (timed 0).store.zone.watch = some 0 ∧ (timed 0).powered = true ∧ (timed 1).store.zone.watch ≠ some 0 ∧
    State.reset.store.zone.watch ≠ some 0 ∧
    1 < (2#8).toNat := by decide

theorem witness_HireStartsInTheLowestVacantSlot :
    let s := carrying (rider .running)
    s.powered = true ∧ (8#8).toNat = (7 : Fin 8).val + 1 ∧ s.shift.state = .opened ∧ s.table.offDuty = false ∧
    s.store.stage.isActivating = false ∧ s.nonVacant < s.table.seatLimit ∧ s.nonVacant + 2 ≤ s.journal.free ∧
    s.table.nextHire = some 1 ∧ s.party 1 = none ∧ (∀ j : Fin 4, j < 1 → s.party j ≠ none) ∧
    s.store.active.tariffs[s.store.selectTariff (some 7)] = some Tariff.delivery ∧ s.sign.test = none ∧
    (after (.lampTest .console 0 1 0 0) opened).sign.test ≠ none ∧
    (after (.lampTest .console 0 1 0 0) opened).party 0 = none := by decide

theorem witness_HireRequestsAreCheckedInOrder :
    let s := carrying (rider .closing)
    8 < (9#8).toNat ∧ State.reset.shift.state = .closed ∧
    (after (.shiftClose .console) opened).shift.state = .closing ∧ opened.table.seatLimit ≤ 4 ∧
    3 < (4#8).toNat ∧ s.party 1 = none ∧ s.party 0 = some (rider .closing) ∧ (rider .closing).state = .closing ∧
    ((paying []).party 0).map (·.state) = some .paying ∧
    (carrying (rider .stopped)).party 0 = some (rider .stopped) ∧ (rider .stopped).state = .stopped ∧
    (carrying (rider .running)).party 0 = some (rider .running) ∧ (rider .running).state = .running := by decide

theorem witness_PartyRequestsAreTaken :
    let k : ExtraKind := ⟨.surcharge, 450, ⟨true, false, false⟩⟩
    let s := metering 0x4123 0 (rider .running)
    s.party 0 = some (rider .running) ∧ (rider .running).state = .running ∧ (rider .stopped).state = .stopped ∧
    s.store.active.extraKinds[(1 : Fin 8)] = some k ∧ k.permitted.has .console = true ∧ k.amount ≠ 0 ∧
    (rider .running).extras.length < 8 ∧ 1 ≤ (99999#32).toNat ∧ (99999#32).toNat ≤ 99999 := by decide

/-- The refusals of ADD_EXTRA, each with the checks before it passed. -/
theorem witness_PartyRequestsAreTaken_refused :
    let k : ExtraKind := ⟨.surcharge, 450, ⟨true, false, false⟩⟩
    let full : Party := { rider .running with extras := List.replicate 8 ⟨0, .surcharge, 1⟩ }
    let held : Party := { rider .stopped with tenders := [.cash 1] }
    3 < (4#8).toNat ∧ (0#8).toNat < 1 ∧ 8 < (9#8).toNat ∧ (2#8).toNat = (1 : Fin 8).val + 1 ∧
    State.reset.store.active.extraKinds[(1 : Fin 8)] = none ∧ k.permitted.has .fleet = false ∧
    ¬(k.amount = 0 ∧ 1 ≤ (5#32).toNat ∧ (5#32).toNat ≤ 99999 ∨ k.amount ≠ 0 ∧ 5#32 = 0) ∧ 0#32 = 0 ∧
    (metering 0x3100 0 full).party 0 = some full ∧ full.state = .running ∧ 8 ≤ full.extras.length ∧
    (metering 0x3100 0 full).party 1 = none ∧ (metering 0x3100 0 held).party 0 = some held ∧ held.state = .stopped ∧
    held.tenders ≠ [] ∧ (rider .closing).state = .closing ∧ (rider .paying).state = .paying := by decide

theorem witness_DutyCallAndSeatsAreSet :
    opened.powered = true ∧ opened.shift.state = .opened ∧ opened.table.offDuty = false ∧ (5#8).toNat > 4 ∧
    (0#8).toNat < (carrying (rider .running)).nonVacant ∧ ¬(1#8).toNat < (carrying (rider .running)).nonVacant := by decide

theorem witness_SessionOpensAndTakesTips :
    let s := carrying (rider .stopped)
    let x : Party := { rider .paying with payment := some 1 }
    s.pay.session = none ∧ s.party 0 = some (rider .stopped) ∧ 1 ≤ (rider .stopped).remaining ∧
    (999999#32).toNat ≤ 999999 ∧ (paying []).pay.session = some ticket ∧ ticket.payment = (1#16).toNat ∧
    (paying []).party ticket.slot = some x := by decide

/-- The refusals of PAY_OPEN, each with the checks before it passed. -/
theorem witness_SessionOpensAndTakesTips_refused :
    let paid : Party := { rider .stopped with tenders := [.cash 5000] }
    3 < (4#8).toNat ∧ (0#8).toNat = (0 : Fin 4).val ∧ (paying []).pay.session ≠ none ∧ opened.pay.session = none ∧
    opened.party 0 = none ∧ (carrying (rider .closing)).party 0 = some (rider .closing) ∧
    (carrying (rider .closing)).pay.session = none ∧ (rider .closing).state = .closing ∧
    (rider .running).state = .running ∧ paid.state = .stopped ∧ paid.remaining = 0 ∧
    (carrying paid).party 0 = some paid := by decide

theorem witness_PinEntryIsGuarded :
    (paying []).pay.session = some ticket ∧ State.reset.pay.session = none ∧ (timed 0).pay.guardTimer = some 0 ∧
    (timed 1).pay.guardTimer ≠ some 0 ∧ (timed 0).powered = true ∧ (timed 1).powered = true := by decide

/-- Both forms of an approval: one that settles at its limit, and one whose party has no place left. -/
theorem witness_ApprovalIsApplied :
    let x : Party := { rider .paying with payment := some 1 }
    let three : Party := { x with tenders := [.cash 1, .cash 1, .cash 1] }
    let s := paying three.tenders
    (paying []).pay.session = some ticket ∧ ticket.payment = (1#16).toNat ∧ (paying []).party ticket.slot = some x ∧
    x.tenders.length < 3 ∧ 1 ≤ (9999999#32).toNat ∧ (9999999#32).toNat ≤ moneyMax ∧ (99999999#32).toNat ≤ 99999999 ∧
    s.party ticket.slot = some three ∧ three.tenders.length = 3 ∧ three.remaining ≤ (4997#32).toNat ∧
    (4996#32).toNat < three.remaining ∧
    (s.nonVacant + 1 < s.journal.free ∧ s.journal.places.length < 4) ∧ ¬(crowded s).journal.places.length < 4 ∧
    (ended .expired).pay.recent.length ≤ 4 := by decide

theorem witness_SessionsEndUnpaid :
    let x : Party := { rider .paying with payment := some 1 }
    (paying []).pay.session = some ticket ∧ (paying []).party ticket.slot = some x ∧
    (paying []).shift.state = .opened ∧ State.reset.openFor (1#16).toNat (0#32).toNat = none ∧
    (expiring 0).pay.session = some { ticket with timeLeft := 0 } ∧ (expiring 0).party ticket.slot = some x ∧
    (expiring 1).pay.session = some { ticket with timeLeft := 1 } := by decide

theorem witness_LateApprovalIsKept :
    let find := fun s : State => s.pay.recent.find? (fun it => decide (it.payment = (1#16).toNat) &&
      (decide ((0#32).toNat = 0) || decide (it.hire = (0#32).toNat)))
    find State.reset = none ∧ find (ended .expired) = some ⟨1, 0, 1, .expired⟩ ∧
    find (ended .result) = some ⟨1, 0, 1, .result⟩ ∧ (ended .expired).openFor (1#16).toNat (0#32).toNat = none ∧
    (ended .expired).party 0 = some (rider .stopped) ∧ (rider .stopped).hire = 1 ∧ 1 ≤ (rider .stopped).remaining ∧
    (ended .expired).nonVacant + 1 < (ended .expired).journal.free ∧
    ¬(crowded (ended .expired)).journal.places.length < 4 ∧
    (paying []).openFor (1#16).toNat (0#32).toNat = some ticket := by decide

/-- The parties of an expired session that a late approval no longer fits, and the one it still fits with three tenders. -/
theorem witness_LateApprovalIsKept_party :
    let three : Party := { rider .stopped with tenders := [.cash 1, .cash 1, .cash 1] }
    let four : Party := { rider .stopped with tenders := [.cash 1, .cash 1, .cash 1, .cash 1] }
    let paid : Party := { rider .stopped with tenders := [.cash 5000] }
    let s := fun x : Party => (ended .expired).setParty 0 (some x)
    (s three).party 0 = some three ∧ three.tenders.length = 3 ∧ (4996#32).toNat < three.remaining ∧
    three.remaining ≤ (4997#32).toNat ∧ three.hire = 1 ∧ three.state = .stopped ∧ 1 ≤ three.remaining ∧
    (s four).party 0 = some four ∧ 4 ≤ four.tenders.length ∧ (s paid).party 0 = some paid ∧ paid.remaining = 0 ∧
    (s (rider .running)).party 0 = some (rider .running) ∧ (rider .running).state ≠ .stopped ∧
    { ended .expired with table := opened.table }.party 0 = none := by decide

theorem witness_CashSettlesTheParty :
    (carrying (rider .stopped)).party 0 = some (rider .stopped) ∧ (rider .stopped).state = .stopped ∧
    (rider .stopped).tenders.length < 3 ∧ (9999999#32).toNat ≤ moneyMax ∧ 1 ≤ (1#32).toNat := by decide

/-- The refusals of CASH_SETTLE, each with the checks before it passed. -/
theorem witness_CashSettlesTheParty_refused :
    let three : Party := { rider .stopped with tenders := [.cash 1, .cash 1, .cash 1] }
    let four : Party := { rider .stopped with tenders := [.cash 1, .cash 1, .cash 1, .cash 1] }
    3 < (4#8).toNat ∧ (0#32).toNat < 1 ∧ moneyMax < (10000000#32).toNat ∧ (0#8).toNat = (0 : Fin 4).val ∧
    opened.party 0 = none ∧ ((paying []).party 0).map (·.state) = some .paying ∧ (rider .closing).state = .closing ∧
    (rider .running).state = .running ∧ four.state = .stopped ∧ 4 ≤ four.tenders.length ∧ three.tenders.length = 3 ∧
    (4996#32).toNat < three.remaining ∧ (carrying three).party 0 = some three := by decide

theorem witness_JournalIsReadAndAcknowledged :
    let e : Entry := ⟨1, ⟨0, true⟩, .tariff 0 7⟩
    let s := after .appendComplete (writing State.reset (.tariff 0 7))
    s.journal.stored = [] ++ e :: [] ∧ e.seq = (1#32).toNat ∧ (1#32).toNat ≤ s.journal.nextSeq - 1 ∧
    s.journal.nextSeq - 1 < (2#32).toNat ∧ (∀ d ∈ s.journal.stored, d.seq ≠ (2#32).toNat) ∧
    State.reset.journal.stored = [] ∧ (tripEntry 6000 0 (rider .closing)).distance ≤ max32 := by decide

theorem witness_AppendsAreStored :
    let s := writing State.reset (.tariff 0 7)
    s.journal.places = .tariff 0 7 :: [] ∧ s.journal.inFlight = true ∧ s.journal.places ≠ [] ∧
    State.reset.journal.places.length < 4 ∧ 4 ≤ (crowded State.reset).journal.places.length := by decide

theorem witness_TripsAreCountedAndShiftsClose :
    let e := tripEntry 6000 0 (rider .closing)
    let s := writing (carrying (rider .closing)) (.trip e)
    let c := after (.shiftClose .console) (after (.shiftOpen .console 40215) State.reset)
    let x : TripEntry := { e with fare := 1 }
    s.journal.inFlight = true ∧ s.journal.places = .trip e :: [] ∧ s.shift.state = .opened ∧
    { s with shift := State.reset.shift }.shift.state ≠ .opened ∧
    shiftMoneyMax ≤ { s.shift.counters with fareTotal := shiftMoneyMax - 1 }.fareTotal + x.fare ∧
    s.shift.counters.fareTotal + x.fare < shiftMoneyMax ∧
    c.journal.places.any EntryBody.isShift = true ∧ (after .appendWriteStart c).journal.inFlight = true := by decide

theorem witness_CompletionKeepsTheFreeCount :
    let s := writing State.reset (.tariff 0 7)
    exec .appendComplete s = .next (after .appendComplete s) ∧ s.journal.queued ≤ 256 - s.journal.stored.length ∧
    s.journal.nextSeq + s.journal.queued ≤ 4294967296 := ⟨rfl, by decide, by decide⟩

theorem witness_ShiftsOpenAndClose :
    (999999#32).toNat ≤ 999999 ∧ State.reset.shift.state = .closed ∧ State.reset.meas.run.isAdopting = false ∧
    1 ≤ State.reset.journal.free ∧ State.reset.shift.number = some 1 ∧ opened.shift.state = .opened ∧
    opened.nonVacant = 0 := by decide

theorem witness_SignFollowsTheTable :
    opened.shift.state = .opened ∧ opened.nonVacant = 0 ∧ opened.table.offDuty = false ∧
    (carrying (rider .stopped)).nonVacant ≠ 0 ∧
    (carrying (rider .running)).party 0 = some (rider .running) ∧ (rider .running).state = .running := by decide

theorem witness_LampRequestsAreTaken :
    (100#8).toNat ≤ 100 ∧ (39#8).toNat < 40 ∧ (2#8).toNat ≤ 2 ∧ State.reset.nonVacant = 0 ∧
    (after (.stopHire .console 0) (carrying (rider .running))).sign.state = .arrived ∧
    (after (.setOnCall .fleet 1) opened).sign.state = .onCall ∧
    (after (.lampTest .console 1 0 0 0) State.reset).sign.test = some 10000 ∧ (timed 0).sign.test = some 0 ∧
    (timed 1).sign.test ≠ some 0 ∧ State.reset.sign.state ≠ .arrived ∧ State.reset.sign.state ≠ .onCall ∧
    (opened.sign.lamps[(0 : Fin 4)]).period = some ⟨0, 256⟩ ∧ (opened.sign.lamps[(1 : Fin 4)]).period = none ∧
    (after (.lampTest .console 1 0 0 0) State.reset).sign.channelLit 0
      (after (.lampTest .console 1 0 0 0) State.reset).sign.lamps[(0 : Fin 4)] = true ∧
    State.reset.deriveSign = State.reset.sign.state ∧
    { State.reset with shift := opened.shift }.deriveSign ≠ State.reset.sign.state ∧
    (State.reset.sign.lamps[(0 : Fin 4)]).override = .normal ∧ channelMode .onCall 0 = .strobe ∧
    channelMode .arrived 1 = .blink ∧ channelMode .free 0 = .steady := by decide

theorem witness_IntercomIsSetAndGatesFollow :
    (1023#16).toNat ≤ 1023 ∧ (300#16).toNat = 300 ∧ (0#8).toNat = modeCode .fullDuplex ∧
    State.reset.intercom.mode = .halfDuplex ∧ (talking (some .driver) none true false).intercom.floor ≠ none ∧
    (State.reset.factors .frontToRear).any = true ∧ (State.reset.intercom.paths.get .frontToRear).gate = .muted ∧
    ((timed 0).intercom.paths.get .frontToRear).gate = .releasing 0 ∧
    ((timed 1).intercom.paths.get .frontToRear).gate ≠ .releasing 0 := by decide

theorem witness_FloorMovesWithTheKeys :
    State.reset.intercom.keys.get .driver = false ∧ State.reset.intercom.mode = .halfDuplex ∧
    State.reset.intercom.floor = none ∧
    (talking (some .driver) none true false).intercom.floor = some (otherSide .rear) ∧
    (talking (some .rear) none false true).intercom.floor = some .rear ∧
    (after (.setTalkOverride .console 1) (talking (some .rear) none false true)).intercom.override = true ∧
    (after (.setIntercomMode .console 2) State.reset).intercom.mode = .closed ∧
    (talking (some .driver) (some .rear) true true).intercom.claimant = some (otherSide .driver) ∧
    (talking (some .driver) none true false).intercom.floorTimer ≠ some 0 ∧
    (timed 0).intercom.floorTimer = some 0 ∧ (timed 0).intercom.claimant = none ∧
    (after (.setIntercomMode .console 0) State.reset).intercom.mode = .fullDuplex ∧
    (talking (some .driver) (some .rear) true false).intercom.claimant = some .rear ∧
    (talking (some .driver) (some .rear) true false).intercom.keys.get .rear = false := by decide

theorem witness_FramesAndTonesArePlayed :
    ((sounding 0 []).intercom.speakers.get .rear).playing = some ⟨.start, 0⟩ ∧ 0 + 1 < toneFrames .start ∧
    toneFrames .start ≤ (toneFrames .start - 1) + 1 ∧ ((sounding 0 []).intercom.speakers.get .front).playing = none ∧
    ((sounding 0 []).intercom.speakers.get .rear).playing ≠ none ∧
    Tone.call ∉ ((sounding 0 []).intercom.speakers.get .rear).waiting ∧ Tone.call ∈ ((sounding 0 [.call]).intercom.speakers.get .rear).waiting ∧
    4 ≤ ((sounding 0 [.call, .start, .approved, .declined]).intercom.speakers.get .rear).waiting.length := by decide

theorem witness_NoticesAreRaisedAndCleared :
    State.reset.powered = true ∧ (0x1FFFFF#32).toNat < 2 ^ 21 ∧ NoticeSource.clockInvalid ∈ levelSources ∧
    NoticeSource.powerRecovered ≠ .message := by decide

theorem witness_RoutesAndMessagesAreKept :
    routeIndex (21#8).toNat = some 19 ∧ (7#8).toNat < 8 ∧ (0#8).toNat = portCode .console ∧ Port.console ≠ .fleet ∧
    (∀ c ∈ ([32#8, 126#8] : List Byte), 32 ≤ c.toNat ∧ c.toNat ≤ 126) ∧
    ((after (.postMessage .fleet 0 [72]) State.reset).notices.ports.get .console).messages =
      { sender := .fleet, text := [72] } :: [] ∧
    (0#8).toNat < 1 ∧ (15#8).toNat = 15 ∧ 21 < (22#8).toNat ∧ 8 ≤ (8#8).toNat ∧ 2 < (3#8).toNat ∧
    ([] : List Byte).length < 1 ∧ 32 < (List.replicate 33 65#8).length ∧ (List.replicate 32 65#8).length ≤ 32 ∧
    (31#8).toNat < 32 ∧ 126 < (127#8).toNat ∧ (State.reset.notices.ports.get .console).messages = [] := by decide

theorem witness_SelectionsAreTaken :
    answeredFormat .fleet [61, 0] = true ∧ (State.reset.ports.get .console).reply = none ∧
    ((after (.readRoutes .console) State.reset).ports.get .console).reply.isSome = true ∧ 1#8 ≠ 0#8 ∧
    60 < (61#8).toNat ∧ (60#8).toNat ≤ 60 ∧ ([] : List Byte).length < (1#8).toNat ∧ 1 ≤ (59#8).toNat ∧
    ([0x64, 0] : List Byte).length = (2#8).toNat := by decide

theorem witness_StateIsReported : (paying []).powered = true ∧ State.reset.powered = true := by decide

theorem witness_RecordsAreReported :
    (8#8).toNat = (7 : Fin 8).val + 1 ∧ State.reset.store.stage = .idle ∧ (staging .loading).store.stage = .loading ∧
    (staging (.activating 7)).store.stage = .activating 7 ∧ (3#8).toNat = (3 : Fin 4).val ∧
    (carrying (rider .closing)).party 0 = some (rider .closing) ∧ opened.shift.state = .opened ∧
    State.reset.shift.number = some 1 ∧ (rider .closing).pulses * 1000 / 6000 ≤ max32 ∧
    (after .appendComplete (after .appendWriteStart (after (.shiftClose .console) opened))).shift.closeTime =
      some ⟨0, true⟩ ∧
    { Shift.delivery with number := none }.number = none := by decide

theorem witness_PowerLossKeepsTheRecords : (paying []).powered = true := by decide

/-- Every kind of slot and both ends of a CLOSING shift that a restart judges: the values of the shift's report, and a CLOSING
slot and a CLOSING shift whose entry is the newest stored one. -/
theorem witness_RestartRestoresThePart :
    let kept := fun s queued : State => { s with journal := (after .appendComplete (after .appendWriteStart queued)).journal }
    let c := after (.shiftClose .console) (after (.shiftOpen .console 40215) State.reset)
    (carrying (rider .running)).party 0 = some (rider .running) ∧ (carrying (rider .closing)).party 1 = none ∧
    (carrying (rider .stopped)).party 0 = some (rider .stopped) ∧
    ((paying []).party 0).map (·.state) = some .paying ∧ (carrying (rider .closing)).journal.newestTrip = none ∧
    (kept (carrying (rider .closing)) (after (.cashSettle .console 0 5000)
      (carrying (rider .stopped)))).journal.newestTrip.map (·.hire) = some (rider .closing).hire ∧
    c.shift.state = .closing ∧ c.journal.newestShift = none ∧ c.shift.number = some 1 ∧ c.shift.closingK = some 6000 ∧
    c.shift.closingRate = some 400 ∧ c.shift.driver = some 40215 ∧ c.shift.openTime = some ⟨0, true⟩ ∧
    (kept c c).shift.state = .closing ∧ (kept c c).journal.newestShift.map (·.1.number) = (kept c c).shift.number ∧
    opened.shift.state = .opened ∧ State.reset.shift.state ≠ .opened ∧ State.reset.store.clockInvalid = true ∧
    (after (.setClock .fleet 86399) State.reset).store.clockInvalid = false := by decide

theorem witness_TripIsCountedOnceAcrossPowerLoss :
    let e := tripEntry 6000 0 (rider .closing)
    let s := writing (carrying (rider .closing)) (.trip e)
    s.powered = true ∧ s.shift.state = .opened ∧ s.journal.inFlight = true ∧ s.journal.places = .trip e :: [] ∧
    e.slot = 0 ∧ s.party 0 = some (rider .closing) ∧ (rider .closing).state = .closing ∧ (rider .closing).hire = e.hire ∧
    (rider .closing).counted = false ∧ (∀ j, j ≠ 0 → s.party j = none) ∧ s.journal.stored = [] := by decide

/-! ### The invariants: a state in the middle of a hire, and a step from it -/

theorem witness_UnitsKeepTheirBounds :
    State.reset.RoutesHoldMinimums ∧ State.reset.QueuesFit ∧ State.reset.FloorIsConsistent ∧
    State.reset.LampsLatchAtThree ∧ State.reset.LevelsAreLegal ∧ State.reset.SealStopsCalibration ∧
    State.reset.InputsAreDebounced ∧
    step { State.reset with pending := [.talkKeyPress .rear] } = .next (after (.talkKeyPress .rear) State.reset) := by
  refine ⟨by unfold State.RoutesHoldMinimums; decide, by unfold State.QueuesFit; decide, ?_,
    by unfold State.LampsLatchAtThree; decide, by unfold State.LevelsAreLegal; decide,
    by unfold State.SealStopsCalibration; decide, by unfold State.InputsAreDebounced Pin.Waits; decide, rfl⟩
  exact ⟨by decide, by decide, fun c h => nomatch h⟩

theorem witness_SignAndGatesFollow :
    opened.SignIsDerived ∧ opened.LampsFollowPhases ∧ opened.GatesFollowFactors ∧
    step { opened with pending := [.startHire .console 0] } = .next (after (.startHire .console 0) opened) := by
  refine ⟨by unfold State.SignIsDerived; decide, fun _ i => ⟨?_, fun m h => ?_⟩,
    by unfold State.GatesFollowFactors; decide, rfl⟩
  · revert i; decide
  · have hi : ∀ i : Fin 4, (opened.sign.lamps[i]).period = some ⟨0, 256⟩ ∨ (opened.sign.lamps[i]).period = none := by decide
    obtain hi | hi := hi i <;> rw [hi] at h <;> simp at h
    subst h; decide

theorem paying_locks : (paying []).SessionLocksItsParty := by
  refine fun _ => ⟨fun i p h _ => ?_, fun x h => ?_⟩
  · have hi : ∀ i : Fin 4, (paying []).pay.session.map (·.slot) = some i ∨ (paying []).party i = none := by decide
    exact (hi i).resolve_right (by simp [h])
  · obtain rfl : ticket = x := Option.some.inj h
    exact ⟨_, rfl, rfl, rfl, rfl⟩

theorem paying_queued : (paying []).ClosingSlotsAreQueued :=
  fun _ => ⟨by decide, fun _ h => nomatch h⟩

theorem paying_covered : (paying []).ShiftCoversHires :=
  ⟨by decide, by decide, fun _ => ⟨by decide, fun _ h => nomatch h⟩⟩

theorem witness_SessionAndQueueCoverTheirSlots :
    (paying []).SessionLocksItsParty ∧ (paying []).ClosingSlotsAreQueued ∧
    step { paying [] with pending := [.pinState .partition 1] } = .next (after (.pinState .partition 1) (paying [])) :=
  ⟨paying_locks, paying_queued, rfl⟩

theorem witness_ShiftAndSeatsBoundHires :
    (paying []).SeatsFit ∧ (paying []).ShiftCoversHires ∧
    step { opened with pending := [.startHire .console 0] } = .next (after (.startHire .console 0) opened) :=
  ⟨by unfold State.SeatsFit; decide, paying_covered, rfl⟩

theorem witness_MoneyStaysWithinLimits : (paying []).MoneyFits := by
  refine ⟨fun i r h => ?_, fun i r h => ?_, fun i p h => ?_⟩
  · have hi : ∀ i : Fin 8, (paying []).store.active.tariffs[i] = some Tariff.delivery ∨
      (paying []).store.active.tariffs[i] = none := by decide
    have hi := hi i
    rw [h] at hi
    obtain rfl : r = Tariff.delivery := by simpa using hi
    unfold Tariff.InRange; decide
  · have hi : ∀ i : Fin 8, (paying []).store.staged.tariffs[i] = none := by decide
    exact absurd (h.symm.trans (hi i)) (by simp)
  · have hi : ∀ i : Fin 4, (paying []).party i = some { rider .paying with payment := some 1 } ∨
      (paying []).party i = none := by decide
    have hi := hi i
    rw [h] at hi
    obtain rfl : p = { rider .paying with payment := some 1 } := by simpa using hi
    unfold Party.MoneyFits; decide

theorem witness_JournalAndSetsStaySound :
    let s := writing (staging (.activating 7)) (.tariff 0 7)
    s.SequenceIsGapless ∧ s.CommittedSetsAreComplete ∧
    step { s with pending := [.appendComplete] } = .next (after .appendComplete s) :=
  ⟨by unfold State.SequenceIsGapless; decide, by unfold State.CommittedSetsAreComplete; decide, rfl⟩

/-- A step that keeps the reserve and one that takes the power away. -/
theorem witness_ReserveIsKept :
    (paying []).SessionLocksItsParty ∧ (paying []).ClosingSlotsAreQueued ∧ (paying []).ShiftCoversHires ∧
    (paying []).ReserveFits ∧
    step { paying [] with pending := [.powerLoss .betweenSteps] } = .next (after (.powerLoss .betweenSteps) (paying [])) ∧
    (after (.powerLoss .betweenSteps) (paying [])).powered = false :=
  ⟨paying_locks, paying_queued, paying_covered, by unfold State.ReserveFits; decide, rfl, by decide⟩

end Sys2Proof.Tests
end

section
/-! Distance pulses and the window result (chapter 1): what a pulse and a closure leave in each part of the state. -/

namespace Sys2Proof.Machine

/-! ## Distance pulses (R1) -/

theorem exec_distancePulse {s : State} (hp : s.powered = true) : exec .distancePulse s = .next (distancePulse s) :=
  event_taken hp

@[simp] theorem CalRun.pulse_counting (course n : Nat) :
    (CalRun.counting course n).pulse = .counting course (min max32 (n + 1)) := rfl

/-- Settles O11: one case for each state of the calibration run, of which only COUNTING counts the pulse. -/
theorem pulsesAreCounted : Obligations.PulsesAreCounted := by
  intro s hp
  rw [exec_distancePulse hp, distancePulse]
  cases s.meas.run with
  | counting course n => rw [CalRun.pulse_counting]; rfl
  | idle | ready | done | failed | adopting => rfl

/-! ## The closure (R2 to R5) -/

theorem exec_windowClose {s : State} (sense : LampSense) (hp : s.powered = true) :
    exec (.windowClose sense) s = .next (windowClose sense s) :=
  event_taken hp

/-- A window is overrun exactly when its raw count is above the pulse ceiling (R3). -/
theorem Measurement.excess_pos (m : Measurement) : 0 < m.excess ↔ m.cal.ceiling < m.raw :=
  Nat.sub_pos_iff_lt

theorem State.raiseIf_decide (s : State) (c : Prop) [Decidable c] (src : NoticeSource) :
    s.raiseIf (decide c) src = if c then s.raise src else s := by
  simp [State.raiseIf]

/-- Everything the activation of an armed set can do (R26): nothing, or a new stage with a TARIFF entry queued. -/
theorem State.tryActivate_cases (s : State) :
    s.tryActivate = s ∨
    ∃ v, s.store.stage = .armed v ∧ s.mayActivate = true ∧
      s.tryActivate = { s with
        store := { s.store with stage := .activating v }
        journal := s.journal.append (.tariff s.store.activeVersion v) } := by
  unfold State.tryActivate
  split
  · next v hv =>
    split
    · next hm => exact .inr ⟨v, hv, hm, rfl⟩
    · exact .inl rfl
  · exact .inl rfl

/-- The activation changes nothing of the tariff store but its stage. -/
theorem State.tryActivate_store (s : State) :
    s.tryActivate.store = { s.store with stage := s.tryActivate.store.stage } := by
  obtain h | ⟨v, -, -, h⟩ := s.tryActivate_cases <;> rw [h]

/-- The activation queues its entry and stores none. -/
theorem State.tryActivate_stored (s : State) : s.tryActivate.journal.stored = s.journal.stored := by
  obtain h | ⟨v, -, -, h⟩ := s.tryActivate_cases <;> rw [h]
  exact (s.journal.append_stored _).1

/-- Counters gain while the shift is OPEN alone (R129). -/
theorem Shift.gain_counters (u : Shift) (f : Counters → Counters) :
    (u.gain f).counters = if u.state = .opened then f u.counters else u.counters := by
  unfold Shift.gain
  split <;> rfl

/-- The shift counters after a closure (R129, R130). -/
theorem windowClose_counters (s : State) (sense : LampSense) :
    (windowClose sense s).shift.counters =
      if s.shift.state = .opened then
        s.shift.counters.atClosure s.meas.charged s.meas.excess (decide (1 ≤ s.shareCount)) (s.sign.onsets sense)
      else s.shift.counters := by
  obtain ⟨-, -, hshift, -⟩ := windowClose_parts s sense
  rw [hshift]
  exact Shift.gain_counters _ _

/-- An overrun window counts, with its excess (R3). -/
theorem Counters.atClosure_overrun (c : Counters) (p onsets : Nat) (hired : Bool) {excess : Nat} (h : 0 < excess) :
    (c.atClosure p excess hired onsets).excessPulses = min max32 (c.excessPulses + excess) ∧
    (c.atClosure p excess hired onsets).overruns = min max32 (c.overruns + 1) := by
  simp [Counters.atClosure, satAdd, h]

/-- Settles O15, from what a closure leaves in each part of the state. -/
theorem windowResultIsFormed : Obligations.WindowResultIsFormed := by
  intro s sense hp p vw
  obtain ⟨hmeas, htable, -, hsign, hpay, hports, -, hstore, hjournal, hnotices⟩ := windowClose_parts s sense
  have hcounters := windowClose_counters s sense
  refine ⟨windowClose sense s, exec_windowClose sense hp, hmeas, hpay, hports, ?store, ?table, ?stored, ?sign, ?notices,
    fun hopen hover => ?gains, fun hshut => ?kept⟩
  case store => rw [hstore]; exact (s.closed sense).tryActivate_store
  case table => rw [htable]; rfl
  case stored => rw [hjournal]; exact (s.closed sense).tryActivate_stored
  case sign => rw [hsign]; rfl
  case notices => simp only [hnotices, State.raiseIf_decide, Measurement.excess_pos]
  case gains =>
    rw [hcounters, if_pos hopen]
    exact Counters.atClosure_overrun _ _ _ _ (s.meas.excess_pos.mpr hover)
  case kept => rw [hcounters, if_neg hshut]

end Sys2Proof.Machine
end

section
/-! The tariff selection (chapter 2): the night band, the first matching zone rule, and the tariff that the two choose. -/

namespace Sys2Proof.Machine

/-! ## The period (R21, R32) -/

/-- A band that starts after its end runs across midnight, and one that starts at its end is empty (R21). -/
theorem inNightBand_iff (start stop minute : Nat) :
    inNightBand start stop minute = true ↔
      start < stop ∧ start ≤ minute ∧ minute < stop ∨ stop < start ∧ (start ≤ minute ∨ minute < stop) := by
  rcases Nat.lt_trichotomy start stop with h | rfl | h
  · simp [inNightBand, h, Nat.lt_asymm h]
  · simp [inNightBand]
  · simp [inNightBand, h, Nat.lt_asymm h]

/-- A clock that is not VALID leaves DAY, whatever the flag and the minute (R32). -/
theorem TariffStore.period_of_invalid {t : TariffStore} (h : t.clockInvalid = true) : t.period = .day := if_pos h

theorem TariffStore.period_of_holiday {t : TariffStore} (hv : t.clockInvalid = false) (h : t.holiday = true) :
    t.period = .holiday := by
  simp [TariffStore.period, hv, h]

theorem TariffStore.period_of_workday {t : TariffStore} (hv : t.clockInvalid = false) (hh : t.holiday = false) :
    t.period =
      if inNightBand t.active.nightStart t.active.nightEnd (minuteOfDay t.clock) then .night else .day := by
  rw [TariffStore.period, hv, hh]; rfl

/-! ## The matching rule (R20) -/

@[simp] theorem ZoneRule.matchesCode_iff (r : ZoneRule) (code : BitVec 16) :
    r.matchesCode code = true ↔ code &&& r.mask = r.value &&& r.mask :=
  decide_eq_true_iff

/-- A place that is empty or holds a rule of another code is passed over. -/
theorem firstMatch_cons_of_not_matches {code : BitVec 16} {head : Option ZoneRule} (n : Nat) (rules : List (Option ZoneRule))
    (h : ∀ q, head = some q → ¬q.matchesCode code) :
    firstMatch code n (head :: rules) = firstMatch code (n + 1) rules := by
  cases head with
  | none => rfl
  | some q => exact if_neg (h q rfl)

/-- A matching rule with no matching rule before it is the one found, under its own number. -/
theorem firstMatch_eq_some {code : BitVec 16} {r : ZoneRule} (rules : List (Option ZoneRule)) (n i : Nat)
    (hi : rules[i]? = some (some r)) (hr : r.matchesCode code)
    (hfirst : ∀ j q, j < i → rules[j]? = some (some q) → ¬q.matchesCode code) :
    firstMatch code n rules = some (n + i, r) := by
  induction rules generalizing n i with
  | nil => simp at hi
  | cons head rules ih =>
    cases i with
    | zero =>
      obtain rfl : head = some r := by simpa using hi
      exact if_pos hr
    | succ i =>
      have hhead : ∀ q, head = some q → ¬q.matchesCode code := fun q hq => hfirst 0 q i.succ_pos (by simp [hq])
      rw [firstMatch_cons_of_not_matches n rules hhead, ih (n + 1) i (by simpa using hi)
        (fun j q hj hq => hfirst (j + 1) q (Nat.succ_lt_succ hj) (by simpa using hq)), Nat.add_right_comm, Nat.add_assoc]

theorem firstMatch_eq_none {code : BitVec 16} (rules : List (Option ZoneRule)) (n : Nat)
    (h : ∀ q, some q ∈ rules → ¬q.matchesCode code) : firstMatch code n rules = none := by
  induction rules generalizing n with
  | nil => rfl
  | cons head rules ih =>
    rw [firstMatch_cons_of_not_matches n rules (fun q hq => h q (by simp [hq]))]
    exact ih (n + 1) (fun q hq => h q (List.mem_cons_of_mem head hq))

theorem TariffStore.matchingRule_of_unknown {t : TariffStore} (h : t.zone.known = false ∨ t.zone.lastCode = none) :
    t.matchingRule = none := by
  unfold TariffStore.matchingRule
  obtain h | h := h
  · rw [h]; rfl
  · rw [h]; exact ite_self none

theorem TariffStore.matchingRule_of_known {t : TariffStore} {code : BitVec 16} (hk : t.zone.known = true)
    (hc : t.zone.lastCode = some code) : t.matchingRule = firstMatch code 1 t.active.zoneRules.toArray.toList := by
  simp [TariffStore.matchingRule, hk, hc]

/-! ## The selected tariff (R38) -/

theorem TariffStore.chosenTariff_of_rule {t : TariffStore} {m : Nat} {r : ZoneRule} (h : t.matchingRule = some (m, r)) :
    t.chosenTariff none = (r.tariffFor t.period).getD (t.active.defaultFor t.period) := by
  simp only [TariffStore.chosenTariff, h]

theorem TariffStore.chosenTariff_of_no_rule {t : TariffStore} (h : t.matchingRule = none) :
    t.chosenTariff none = t.active.defaultFor t.period := by
  simp only [TariffStore.chosenTariff, h]

/-- The fallback applies to whatever tariff the steps of R38 choose. -/
theorem TariffStore.selectTariff_of_chosen {t : TariffStore} {pin : Option TariffNo} {n : TariffNo}
    (h : t.chosenTariff pin = n) : t.selectTariff pin = if (t.active.tariffs[n]).isSome then n else 0 := by
  rw [← h]; rfl

/-- Settles O24: the three sources of the chosen tariff, the branches of the period, and the search of the rule list. -/
theorem selectionFollowsPinRulePeriod : Obligations.SelectionFollowsPinRulePeriod := by
  refine ⟨fun t pin => ⟨?pinned, ?ruled, ?defaulted⟩, fun t => ⟨?invalid, ?holiday, ?workday⟩,
    fun t => ⟨?unknown, fun code hk hc => ⟨?found, ?unmatched⟩⟩⟩
  case pinned => rintro n rfl; exact TariffStore.selectTariff_of_chosen rfl
  case ruled =>
    rintro m r rfl hm
    exact TariffStore.selectTariff_of_chosen (TariffStore.chosenTariff_of_rule hm)
  case defaulted =>
    rintro rfl hm
    exact TariffStore.selectTariff_of_chosen (TariffStore.chosenTariff_of_no_rule hm)
  case invalid => exact TariffStore.period_of_invalid
  case holiday => exact TariffStore.period_of_holiday
  case workday =>
    intro hv hh
    rw [TariffStore.period_of_workday hv hh]
    exact ite_congr (propext (inNightBand_iff _ _ _)) (fun _ => rfl) (fun _ => rfl)
  case unknown => exact TariffStore.matchingRule_of_unknown
  case found =>
    intro i r hi hr hfirst
    rw [TariffStore.matchingRule_of_known hk hc, firstMatch_eq_some _ 1 i (by simpa using hi) (by simpa using hr),
      Nat.add_comm]
    intro j q hj hq
    have hj16 : j < 16 := Nat.lt_trans hj i.isLt
    simpa using hfirst ⟨j, hj16⟩ q hj (by simpa [hj16] using hq)
  case unmatched =>
    intro h
    rw [TariffStore.matchingRule_of_known hk hc]
    refine firstMatch_eq_none _ 1 fun q hq => ?_
    obtain ⟨j, hj, hjq⟩ : ∃ (j : Nat) (hj : j < 16), t.active.zoneRules[j] = some q := by
      simpa [Vector.mem_iff_getElem] using hq
    simpa using h ⟨j, hj⟩ q hjq

end Sys2Proof.Machine
end

section
/-! The zone-entry extra of a closure (chapter 3): what charging and re-selection leave of a party's extras, and what the
matching rule adds to them. -/

namespace Sys2Proof.Machine

/-! ## Charging and re-selection leave the entries -/

/-- What R52 works on, the extras list, the charged-rule set and the EXTRA_DROPPED flag, stands in `y` as in `x`. -/
def Party.SameEntries (x y : Party) : Prop :=
  y.extras = x.extras ∧ y.chargedRules = x.chargedRules ∧ y.extraDropped = x.extraDropped

theorem Party.metered_sameEntries (x : Party) (store : TariffStore) (k p n : Nat) :
    x.SameEntries (x.metered store k p n) := by
  unfold Party.metered
  split <;> exact ⟨rfl, rfl, rfl⟩

theorem Party.reselect_sameEntries (x : Party) (store : TariffStore) : x.SameEntries (x.reselect store) := by
  unfold Party.reselect
  split <;> exact ⟨rfl, rfl, rfl⟩

/-- A closure takes a RUNNING party to its zone entry with the entries as they stood (R41, R52). -/
theorem Party.atClosure_running {x : Party} (hx : x.state = .running) (store : TariffStore) (k p n : Nat) :
    ∃ w, x.SameEntries w ∧ x.atClosure store k p n = w.zoneEntry store := by
  obtain ⟨hextras, hrules, hdropped⟩ := x.metered_sameEntries store k p n
  obtain ⟨hextras', hrules', hdropped'⟩ := (x.metered store k p n).reselect_sameEntries store
  exact ⟨_, ⟨hextras'.trans hextras, hrules'.trans hrules, hdropped'.trans hdropped⟩, if_pos hx⟩

/-! ## The zone entry (R52) -/

theorem TariffStore.entryExtra_of_kind {t : TariffStore} {n : Nat} {rule : ZoneRule} {kind : KindNo} {k : ExtraKind}
    (hm : t.matchingRule = some (n, rule)) (he : rule.entryExtra = some kind) (hk : t.active.extraKinds[kind] = some k) :
    t.entryExtra = some (n, { kind := kind, cls := k.cls, amount := k.amount }) := by
  simp only [TariffStore.entryExtra, hm, he, hk, Option.map_some]

theorem TariffStore.entryExtra_eq_none {t : TariffStore}
    (h : t.matchingRule = none ∨ ∃ n rule, t.matchingRule = some (n, rule) ∧ rule.entryExtra = none) :
    t.entryExtra = none := by
  obtain hm | ⟨n, rule, hm, he⟩ := h
  · simp only [TariffStore.entryExtra, hm]
  · simp only [TariffStore.entryExtra, hm, he]

theorem Party.zoneEntry_of_none (x : Party) {store : TariffStore} (h : store.entryExtra = none) :
    x.zoneEntry store = x := by
  simp only [Party.zoneEntry, h]

theorem Party.zoneEntry_of_fresh {x : Party} {store : TariffStore} {n : Nat} {e : Extra}
    (h : store.entryExtra = some (n, e)) (hfresh : x.chargedRules &&& ruleBit n = 0) :
    x.zoneEntry store = x.enter n e := by
  simp only [Party.zoneEntry, h, if_pos hfresh]

theorem Party.zoneEntry_of_charged {x : Party} {store : TariffStore} {n : Nat} {e : Extra}
    (h : store.entryExtra = some (n, e)) (hbefore : x.chargedRules &&& ruleBit n ≠ 0) : x.zoneEntry store = x := by
  simp only [Party.zoneEntry, h, if_neg hbefore]

theorem Party.enter_of_room {x : Party} (h : x.extras.length < 8) (n : Nat) (e : Extra) :
    x.enter n e = { x with extras := x.extras ++ [e], chargedRules := x.chargedRules ||| ruleBit n } :=
  if_pos h

theorem Party.enter_of_full {x : Party} (h : 8 ≤ x.extras.length) (n : Nat) (e : Extra) :
    x.enter n e = { x with extraDropped := true, chargedRules := x.chargedRules ||| ruleBit n } :=
  if_neg (Nat.not_lt.mpr h)

/-- Settles O18: the party reaches its zone entry with its entries kept, and the zone entry has one case for a charge with
room, a charge on a full list, a rule charged before, and no entry extra. -/
theorem entryExtraIsChargedOnce : Obligations.EntryExtraIsChargedOnce := by
  intro s sense i x hp hx hrunning
  obtain ⟨w, ⟨hextras, hrules, hdropped⟩, hclosed⟩ :=
    Party.atClosure_running hrunning s.store s.meas.cal.k s.meas.charged s.shareCount
  refine ⟨windowClose sense s, w.zoneEntry s.store, exec_windowClose sense hp, ?slot, ?extra, fun hnone => ?noExtra⟩
  case slot => rw [windowClose_party, hx, ← hclosed]; rfl
  case extra =>
    intro n rule kind k hm he hk bit
    have hentry := TariffStore.entryExtra_of_kind hm he hk
    rw [← hextras, ← hrules, ← hdropped]
    refine ⟨fun hfresh hroom => ?charged, fun hfresh hfull => ?dropped, fun hbefore => ?repeated⟩
    case charged => rw [Party.zoneEntry_of_fresh hentry hfresh, Party.enter_of_room hroom]; exact ⟨rfl, rfl, rfl⟩
    case dropped => rw [Party.zoneEntry_of_fresh hentry hfresh, Party.enter_of_full hfull]; exact ⟨rfl, rfl, rfl⟩
    case repeated => rw [Party.zoneEntry_of_charged hentry hbefore]; exact ⟨rfl, rfl, rfl⟩
  case noExtra =>
    rw [w.zoneEntry_of_none (TariffStore.entryExtra_eq_none hnone)]
    exact ⟨hextras, hrules, hdropped⟩

end Sys2Proof.Machine
end

section
/-! Duty, on call and the seat limit (chapter 4): the answer of each request, one lemma for each outcome of its rule. -/

namespace Sys2Proof.Machine

/-! ## Duty (R75) -/

/-- SET_DUTY OFF is accepted in every state, and withdraws the vehicle from dispatch. -/
theorem setDuty_off (s : State) :
    setDuty 0#8 s =
      ⟨State.updateSign { s with table := { s.table with offDuty := true, onCall := false } }, .ok, []⟩ := rfl

/-- SET_DUTY ON leaves the on-call flag as it is. -/
theorem setDuty_on (s : State) :
    setDuty 1#8 s = ⟨State.updateSign { s with table := { s.table with offDuty := false } }, .ok, []⟩ := rfl

theorem exec_setDuty {s : State} (value : Byte) (hp : s.powered = true) :
    exec (.setDuty .console value) s = .next
      ((setDuty value s).state.putReply .console 23 (setDuty value s).status (setDuty value s).results) :=
  request_taken hp rfl

/-! ## On call (R76) -/

theorem setOnCall_clear (s : State) :
    setOnCall 0#8 s = ⟨State.updateSign { s with table := { s.table with onCall := false } }, .ok, []⟩ := rfl

theorem setOnCall_set {s : State} (h : s.shift.state = .opened ∧ s.table.offDuty = false) :
    setOnCall 1#8 s = ⟨State.updateSign { s with table := { s.table with onCall := true } }, .ok, []⟩ := by
  obtain ⟨hopen, hduty⟩ := h
  exact if_neg (by simp [hopen, hduty])

theorem setOnCall_refused {s : State} (h : ¬(s.shift.state = .opened ∧ s.table.offDuty = false)) :
    setOnCall 1#8 s = refuse s .state := by
  refine if_pos ?_
  by_cases hopen : s.shift.state = .opened
  · exact .inr (eq_true_of_ne_false fun hduty => h ⟨hopen, hduty⟩)
  · exact .inl hopen

theorem exec_setOnCall {s : State} (value : Byte) (hp : s.powered = true) :
    exec (.setOnCall .fleet value) s = .next
      ((setOnCall value s).state.putReply .fleet 24 (setOnCall value s).status (setOnCall value s).results) :=
  request_taken hp rfl

/-! ## The seat limit (R77) -/

theorem setSeatLimit_range {limit : Nat} (h : limit < 1 ∨ 4 < limit) (s : State) :
    setSeatLimit limit s = refuse s .range := if_pos h

theorem setSeatLimit_below {s : State} {limit : Nat} (hrange : ¬(limit < 1 ∨ 4 < limit)) (h : limit < s.nonVacant) :
    setSeatLimit limit s = refuse s .state := (if_neg hrange).trans (if_pos h)

theorem setSeatLimit_taken {s : State} {limit : Nat} (hrange : ¬(limit < 1 ∨ 4 < limit)) (h : ¬limit < s.nonVacant) :
    setSeatLimit limit s = ⟨State.updateSign { s with table := { s.table with seatLimit := limit } }, .ok, []⟩ :=
  (if_neg hrange).trans (if_neg h)

theorem exec_setSeatLimit {s : State} (limit : Byte) (hp : s.powered = true) :
    exec (.setSeatLimit .console limit) s = .next ((setSeatLimit limit.toNat s).state.putReply .console 25
      (setSeatLimit limit.toNat s).status (setSeatLimit limit.toNat s).results) :=
  request_taken hp rfl

/-- Settles O29: each request answers by its own rule, whose outcomes are told apart by the shift and the duty flag for
SET_ON_CALL SET and by the range and the non-vacant slots for SET_SEAT_LIMIT. -/
theorem dutyCallAndSeatsAreSet : Obligations.DutyCallAndSeatsAreSet := by
  refine ⟨fun s hp => ⟨?off, ?on, ?clear, ?set⟩, fun s limit hp => ?seats⟩
  case off => rw [exec_setDuty _ hp, setDuty_off]
  case on => rw [exec_setDuty _ hp, setDuty_on]
  case clear => rw [exec_setOnCall _ hp, setOnCall_clear]
  case set =>
    rw [exec_setOnCall _ hp]
    split
    case isTrue hduty => rw [setOnCall_set hduty]
    case isFalse hduty => rw [setOnCall_refused hduty]; rfl
  case seats =>
    rw [exec_setSeatLimit _ hp]
    split
    case isTrue houtside => rw [setSeatLimit_range houtside]; rfl
    case isFalse hrange =>
      split
      case isTrue hbelow => rw [setSeatLimit_below hrange hbelow]; rfl
      case isFalse henough => rw [setSeatLimit_taken hrange henough]

end Sys2Proof.Machine
end

section
/-! The derived sign state (chapter 8): the counts over the four slots, and one lemma for each row of R146's table. -/

namespace Sys2Proof.Machine

/-! ## The counts over the slots -/

theorem State.slotList_eq_map_party (s : State) : s.slotList = (List.finRange 4).map s.party := by
  refine List.ext_getElem (by simp [State.slotList]) fun i hslots hslots' => ?_
  simp [State.slotList, State.party]

theorem slotIn_iff {st : PartyState} {slot : Option Party} :
    slotIn st slot = true ↔ ∃ x, slot = some x ∧ x.state = st := by
  cases slot with
  | none => simp [slotIn]
  | some x => simp [slotIn]

theorem isSome_of_slotIn {st : PartyState} {slot : Option Party} (h : slotIn st slot = true) : slot.isSome = true := by
  obtain ⟨x, rfl, -⟩ := slotIn_iff.mp h
  rfl

theorem State.nonVacant_eq_countP_party (s : State) :
    s.nonVacant = (List.finRange 4).countP (fun i => (s.party i).isSome) := by
  rw [State.nonVacant, s.slotList_eq_map_party, List.countP_map]
  rfl

/-- A RUNNING party's slot is one of the non-vacant ones. -/
theorem State.runningCount_le_nonVacant (s : State) : s.runningCount ≤ s.nonVacant :=
  List.countP_mono_left fun _ _ => isSome_of_slotIn

theorem State.runningCount_eq_zero_iff (s : State) :
    s.runningCount = 0 ↔ ∀ i x, s.party i = some x → x.state ≠ .running := by
  simp [State.runningCount, s.slotList_eq_map_party, List.countP_eq_zero, slotIn_iff]

/-! ## The rows of the table (R146) -/

theorem State.deriveSign_of_not_opened {s : State} (h : s.shift.state ≠ .opened) : s.deriveSign = .dark := if_pos h

theorem State.deriveSign_of_vacant {s : State} (hopen : s.shift.state = .opened) (hvacant : s.nonVacant = 0) :
    s.deriveSign = if s.table.offDuty then .offDuty else if s.table.onCall then .onCall else .free :=
  (if_neg (not_not_intro hopen)).trans (if_pos hvacant)

/-- With a slot taken the flags no longer show: the rows are told apart by the RUNNING parties and the seat limit. -/
theorem State.deriveSign_of_taken {s : State} (hopen : s.shift.state = .opened) (htaken : s.nonVacant ≠ 0) :
    s.deriveSign = if s.runningCount = 0 then .arrived
      else if s.nonVacant < s.table.seatLimit then .shareOpen else .hired :=
  (if_neg (not_not_intro hopen)).trans (if_neg htaken)

theorem State.deriveSign_of_none_running {s : State} (hopen : s.shift.state = .opened) (htaken : s.nonVacant ≠ 0)
    (hnone : s.runningCount = 0) : s.deriveSign = .arrived :=
  (State.deriveSign_of_taken hopen htaken).trans (if_pos hnone)

/-- A RUNNING party takes a slot, so the rows of an empty vehicle are past. -/
theorem State.deriveSign_of_running {s : State} (hopen : s.shift.state = .opened) (hrunning : s.runningCount ≠ 0) :
    s.deriveSign = if s.nonVacant < s.table.seatLimit then .shareOpen else .hired := by
  have htaken : s.nonVacant ≠ 0 := fun hvacant => hrunning (Nat.le_zero.mp (hvacant ▸ s.runningCount_le_nonVacant))
  exact (State.deriveSign_of_taken hopen htaken).trans (if_neg hrunning)

/-- Settles O41: the count runs over the four slots, and each row of the table is its own lemma. -/
theorem signFollowsTheTable : Obligations.SignFollowsTheTable := by
  refine fun s => ⟨s.nonVacant_eq_countP_party, fun hshift => ?dark, fun hopen hvacant hoff => ?offDuty,
    fun hopen hvacant hoff hcall => ?onCall, fun hopen hvacant hoff hcall => ?free,
    fun hopen htaken hnone => ?arrived, fun hopen ⟨i, x, hx, hstate⟩ => ?running⟩
  case dark => exact State.deriveSign_of_not_opened fun hopen => by simp [hopen] at hshift
  case offDuty => rw [State.deriveSign_of_vacant hopen hvacant, if_pos hoff]
  case onCall => simp [State.deriveSign_of_vacant hopen hvacant, hoff, hcall]
  case free => simp [State.deriveSign_of_vacant hopen hvacant, hoff, hcall]
  case arrived => exact State.deriveSign_of_none_running hopen htaken (s.runningCount_eq_zero_iff.mpr hnone)
  case running =>
    exact State.deriveSign_of_running hopen fun hnone => s.runningCount_eq_zero_iff.mp hnone i x hx hstate

end Sys2Proof.Machine
end


section
/-! What a step can be, said once for every invariant: a property that an advance of the counters and every command keep is
kept by a step, and a command keeps a property of the parts it leaves alone. -/

namespace Sys2Proof.Machine

/-! ## Properties of some parts -/

/-- The property reads the listed parts of the state alone. -/
def ReadsOnly (D : List Part) (P : State → Prop) : Prop := ∀ s t, (∀ d ∈ D, SameAt s t d) → P s → P t

/-- A change of parts that the property does not read keeps it. -/
theorem ReadsOnly.keep {D l : List Part} {P : State → Prop} (hP : ReadsOnly D P) {s t : State} (h : ChangesOnly l s t)
    (hd : ∀ d ∈ D, d ∉ l) (hs : P s) : P t :=
  hP s t (fun d hm => h d (hd d hm)) hs

/-- A command keeps a property of parts that it does not touch. -/
theorem ReadsOnly.exec {D : List Part} {P : State → Prop} (hP : ReadsOnly D P) {c : Instr} {s t : State}
    (h : exec c s = .next t) (hd : ∀ d ∈ D, d ∉ touches c) (hs : P s) : P t :=
  hP.keep (exec_frame h) hd hs

theorem ReadsOnly.pending {D : List Part} {P : State → Prop} (hP : ReadsOnly D P) (hd : Part.pending ∉ D) {s : State}
    (q : List Instr) (hs : P s) : P { s with pending := q } :=
  hP s _ (fun d hm => by cases d <;> first | rfl | exact absurd hm hd) hs

theorem ReadsOnly.putReply {D : List Part} {P : State → Prop} (hP : ReadsOnly D P) (hd : Part.ports ∉ D) {s : State}
    (p : Port) (k : Nat) (st : Status) (res : List Byte) (hs : P s) : P (s.putReply p k st res) :=
  hP s _ (fun d hm => by cases d <;> first | rfl | exact absurd hm hd) hs

/-- A request keeps a property that its rule keeps, where the property does not read the ports. -/
theorem ReadsOnly.request {D : List Part} {P : State → Prop} (hP : ReadsOnly D P) (hd : Part.ports ∉ D) {p : Port} {k : Kind}
    {body : State → Answer} {s t : State} (h : request p k body s = .next t)
    (hbody : s.powered = true → P (body s).state) (hs : P s) : P t :=
  request_keeps h hs (fun _ => hbody) (fun _ st res => hP.putReply hd p k.code st res)

/-! ## Steps -/

section Steps

variable {P : State → Prop} (hexec : ∀ c s t, P s → exec c s = .next t → P t)

include hexec

/-- On a powered part an event's function keeps what its command keeps. -/
theorem event_function_keeps (c : Instr) {f : State → State} (hc : ∀ s, exec c s = event f s) {s : State}
    (hp : s.powered = true) (hs : P s) : P (f s) :=
  hexec c s _ hs ((hc s).trans (event_taken hp))

theorem State.periodic_keeps {s : State} (hp : s.powered = true) (hs : P s) : P s.periodic := by
  have hwindow : P (if s.windowMs = 0 then windowClose s.sign.sense s else s) ∧
      (if s.windowMs = 0 then windowClose s.sign.sense s else s).powered = true := by
    split
    · exact ⟨event_function_keeps hexec (.windowClose _) (fun _ => rfl) hp hs,
        (windowClose_frame _ _ .powered (by decide)).trans hp⟩
    · exact ⟨hs, hp⟩
  rw [State.periodic_eq]
  dsimp only
  split
  · exact event_function_keeps hexec .clockSecond (fun _ => rfl) hwindow.2 hwindow.1
  · exact hwindow.1

theorem sealDebounced_keeps {s : State} (hp : s.powered = true) (hs : P s) : P (sealDebounced s) := by
  obtain ⟨-, h⟩ | ⟨-, h⟩ := sealDebounced_cases s <;> rw [h]
  · exact hs
  · split
    · exact event_function_keeps hexec .sealClose (fun _ => rfl) hp hs
    · exact event_function_keeps hexec .sealOpen (fun _ => rfl) hp hs

theorem keyDebounced_keeps (side : TalkSide) {s : State} (hp : s.powered = true) (hs : P s) : P (keyDebounced side s) := by
  obtain ⟨-, h⟩ | ⟨-, h⟩ := keyDebounced_cases side s <;> rw [h]
  · exact hs
  · split
    · exact event_function_keeps hexec (.talkKeyPress side) (fun _ => rfl) hp hs
    · exact event_function_keeps hexec (.talkKeyRelease side) (fun _ => rfl) hp hs

theorem State.debounced_keeps {s : State} (hp : s.powered = true) (hs : P s) : P s.debounced := by
  have hsealed : (sealDebounced s).powered = true := (sealDebounced_frame s .powered (by decide)).trans hp
  have hdriver : (keyDebounced .driver (sealDebounced s)).powered = true :=
    (keyDebounced_frame .driver _ .powered (by decide)).trans hsealed
  exact keyDebounced_keeps hexec .rear hdriver
    (keyDebounced_keeps hexec .driver hsealed (sealDebounced_keeps hexec hp hs))

/-- A step keeps what the counters' advance and every command keep. -/
theorem step_keeps (hqueue : ∀ s q, P s → P { s with pending := q })
    (hadvance : ∀ s, s.powered = true → P s → P s.advance) {s t : State} (h : step s = .next t) (hs : P s) : P t := by
  obtain ⟨hpending, rfl⟩ | ⟨c, rest, -, hc⟩ := step_cases h
  · cases hp : s.powered with
    | false => rwa [tick_unpowered hp]
    | true =>
      have hperiodic : s.advance.periodic.powered = true := (s.advance.periodic_frame .powered (by decide)).trans hp
      rw [tick_powered hpending hp]
      exact hqueue _ _ (State.debounced_keeps hexec hperiodic (State.periodic_keeps hexec hp (hadvance s hp hs)))
  · exact hexec c _ t (hqueue s rest hs) hc

end Steps

end Sys2Proof.Machine
end


section
/-! A collection without order: a list up to a permutation, with its counts and its members; and some steps of a relation. -/

namespace Sys2Proof.Machine

/-- A list of which the order does not matter. -/
def Bag (α : Type) : Type := Quotient (List.isSetoid α)

variable {α : Type}

def Bag.of (l : List α) : Bag α := Quotient.mk _ l

def Bag.empty : Bag α := .of []

def Bag.cons (a : α) : Bag α → Bag α :=
  Quotient.lift (fun l => .of (a :: l)) fun _ _ h => Quotient.sound (List.Perm.cons a h)

def Bag.card : Bag α → Nat := Quotient.lift List.length fun _ _ h => List.Perm.length_eq h

/-- The number of members that pass a test. -/
def Bag.countP (f : α → Bool) : Bag α → Nat := Quotient.lift (List.countP f) fun _ _ h => List.Perm.countP_eq f h

def Bag.Has (q : Bag α) (a : α) : Prop := Quotient.lift (a ∈ ·) (fun _ _ h => propext (List.Perm.mem_iff h)) q

theorem Bag.of_eq_of_perm {l l' : List α} (h : l.Perm l') : Bag.of l = Bag.of l' := Quotient.sound h

theorem Bag.ind {P : Bag α → Prop} (h : ∀ l, P (.of l)) (q : Bag α) : P q := Quotient.ind h q

theorem Bag.induction {P : Bag α → Prop} (empty : P .empty) (cons : ∀ a q, P q → P (.cons a q)) (q : Bag α) : P q := by
  induction q using Bag.ind with
  | _ l =>
    induction l with
    | nil => exact empty
    | cons a l ih => exact cons a _ ih

@[simp] theorem Bag.card_of (l : List α) : (Bag.of l).card = l.length := rfl

@[simp] theorem Bag.countP_of (f : α → Bool) (l : List α) : (Bag.of l).countP f = l.countP f := rfl

@[simp] theorem Bag.of_has (l : List α) (a : α) : (Bag.of l).Has a ↔ a ∈ l := .rfl

@[simp] theorem Bag.card_empty : (Bag.empty : Bag α).card = 0 := rfl

@[simp] theorem Bag.countP_empty (f : α → Bool) : Bag.empty.countP f = 0 := rfl

@[simp] theorem Bag.empty_has (a : α) : ¬Bag.empty.Has a := List.not_mem_nil

variable {f : α → Bool} {a b : α} (q : Bag α)

theorem Bag.card_cons : (Bag.cons a q).card = q.card + 1 := by
  induction q using Bag.ind with
  | _ l => rfl

theorem Bag.countP_cons : (Bag.cons a q).countP f = q.countP f + (if f a then 1 else 0) := by
  induction q using Bag.ind with
  | _ l => exact List.countP_cons

theorem Bag.countP_cons_of_pos (h : f a = true) : (Bag.cons a q).countP f = q.countP f + 1 := by
  rw [Bag.countP_cons, if_pos h]

theorem Bag.countP_cons_of_neg (h : f a = false) : (Bag.cons a q).countP f = q.countP f := by
  rw [Bag.countP_cons, h]
  rfl

variable {q}

theorem Bag.cons_has : (Bag.cons a q).Has b ↔ b = a ∨ q.Has b := by
  induction q using Bag.ind with
  | _ l => exact List.mem_cons

theorem Bag.cons_has_self : (Bag.cons a q).Has a := Bag.cons_has.mpr (.inl rfl)

theorem Bag.cons_has_of_has (h : q.Has b) : (Bag.cons a q).Has b := Bag.cons_has.mpr (.inr h)

theorem Bag.countP_pos : 0 < q.countP f ↔ ∃ a, q.Has a ∧ f a = true := by
  induction q using Bag.ind with
  | _ l => exact List.countP_pos_iff

theorem Bag.countP_eq_zero : q.countP f = 0 ↔ ∀ a, q.Has a → ¬f a = true := by
  induction q using Bag.ind with
  | _ l => exact List.countP_eq_zero

/-! ## Some steps of a relation -/

/-- Any number of steps. -/
inductive Reach (r : α → α → Prop) (a : α) : α → Prop
  | refl : Reach r a a
  | tail {b c : α} (hb : Reach r a b) (hc : r b c) : Reach r a c

theorem Reach.trans {r : α → α → Prop} {a b c : α} (hb : Reach r a b) (hc : Reach r b c) : Reach r a c := by
  induction hc with
  | refl => exact hb
  | tail _ st ih => exact .tail ih st

theorem Reach.single {r : α → α → Prop} {a b : α} (h : r a b) : Reach r a b := .tail .refl h

end Sys2Proof.Machine
end

section
/-! The ledger: what the invariants of sessions, shifts and the journal's reserve read of the state, and every move of it. A
party is its state, its hire and its payment number; the append queue is the collection of its bodies. -/

namespace Sys2Proof.Machine

/-! ## The ledger -/

/-- What the ledger keeps of a party. -/
structure Occupant where
  state : PartyState
  hire : Nat
  payment : Option Nat

/-- What the ledger keeps of the open session. -/
structure Claim where
  slot : Fin 4
  hire : Nat
  payment : Nat

/-- The part as its books show it. -/
structure Ledger where
  occupants : Vector (Option Occupant) 4
  seatLimit : Nat
  claim : Option Claim
  /-- the entries in places and the waiting entries, in no order -/
  queue : Bag EntryBody
  stored : List Entry
  nextSeq : Nat
  shift : ShiftState
  number : Option Nat
  /-- whether the stage is ACTIVATING -/
  activating : Bool
  powered : Bool

def Party.occupant (p : Party) : Occupant := { state := p.state, hire := p.hire, payment := p.payment }

def Session.claim (x : Session) : Claim := { slot := x.slot, hire := x.hire, payment := x.payment }

/-- The queued bodies. -/
def RecordStore.bodies (j : RecordStore) : Bag EntryBody := Bag.of (j.places ++ j.waiting)

def State.ledger (s : State) : Ledger :=
  { occupants := mapVector (Option.map Party.occupant) s.table.slots
    seatLimit := s.table.seatLimit
    claim := s.pay.session.map Session.claim
    queue := s.journal.bodies
    stored := s.journal.stored
    nextSeq := s.journal.nextSeq
    shift := s.shift.state
    number := s.shift.number
    activating := s.store.stage.isActivating
    powered := s.powered }

/-- The non-vacant slots. -/
def Ledger.nonVacant (l : Ledger) : Nat := (List.finRange 4).countP (fun i => l.occupants[i].isSome)

/-- The slots in a state. -/
def Ledger.holds (l : Ledger) (st : PartyState) (i : Fin 4) : Bool := (l.occupants[i]).any (fun o => decide (o.state = st))

/-- The free count (R115). -/
def Ledger.free (l : Ledger) : Nat :=
  min (Config.journalCapacity - l.stored.length - l.queue.card) (4294967296 - l.nextSeq - l.queue.card)

/-- The shift's place in the reserve. -/
def Ledger.shiftPlace (l : Ledger) : Nat := if l.shift = .opened then 1 else 0

/-- The hire of the newest stored TRIP entry. -/
def Ledger.newestHire (l : Ledger) : Option Nat := (l.stored.reverse.findSome? (fun e => e.body.trip?)).map (·.hire)

/-- The number of the newest stored SHIFT entry. -/
def Ledger.newestNumber (l : Ledger) : Option Nat := (l.stored.reverse.findSome? Entry.shift?).map (·.1.number)

/-- The ledger with another occupant in a slot. -/
def Ledger.put (l : Ledger) (i : Fin 4) (o : Option Occupant) : Ledger := { l with occupants := l.occupants.set i o }

/-- The ledger with an entry queued. -/
def Ledger.enqueue (l : Ledger) (b : EntryBody) : Ledger := { l with queue := Bag.cons b l.queue }

/-- The ledger with an entry stored and `q` left in the queue. -/
def Ledger.store (l : Ledger) (now : Stamp) (b : EntryBody) (q : Bag EntryBody) : Ledger :=
  { l with queue := q, stored := l.stored ++ [storedEntry l.nextSeq now b], nextSeq := l.nextSeq + 1 }

/-- The ledger with its shift closed by its entry (R135). -/
def Ledger.closeShift (l : Ledger) : Ledger := { l with shift := .closed, number := nextShiftNumber l.number }

/-- The ledger after a loss of power: no session, no queue. -/
def Ledger.powerOff (l : Ledger) (activating : Bool) : Ledger :=
  { l with claim := none, queue := .empty, activating := activating, powered := false }

/-- The occupant with its payment ended, or never begun. -/
def Occupant.turn (o : Occupant) (st : PartyState) : Occupant := { o with state := st, payment := none }

/-- An entry of no hire and no shift. -/
def EntryBody.plain (b : EntryBody) : Prop := b.isShift = false ∧ ∀ i, b.isTripAt i = false

/-! ## Moves -/

/-- Everything that a command of a powered part can do to the ledger. -/
inductive Move : Ledger → Ledger → Prop
  /-- SET_SEAT_LIMIT (R77). -/
  | seats {l : Ledger} (n : Nat) (hmin : 1 ≤ n) (hmax : n ≤ 4) (hfit : l.nonVacant ≤ n) : Move l { l with seatLimit := n }
  /-- START_HIRE (R65, R66). -/
  | hire {l : Ledger} (i : Fin 4) (o : Occupant) (hvacant : l.occupants[i] = none) (hstate : o.state = .running)
      (hshift : l.shift = .opened) (hseat : l.nonVacant < l.seatLimit) (hroom : l.nonVacant + 2 ≤ l.free) :
      Move l (l.put i (some o))
  /-- A party RUNNING or STOPPED that stays so (R68, R69, R84). -/
  | turn {l : Ledger} (i : Fin 4) (o o' : Occupant) (h : l.occupants[i] = some o)
      (hfrom : o.state = .running ∨ o.state = .stopped) (hhire : o'.hire = o.hire)
      (hto : o'.state = .running ∨ o'.state = .stopped) : Move l (l.put i (some o'))
  /-- PAY_OPEN (R88, R89). -/
  | lock {l : Ledger} (i : Fin 4) (o : Occupant) (payment : Nat) (hclaim : l.claim = none) (h : l.occupants[i] = some o)
      (hclosing : o.state ≠ .closing) :
      Move l { l.put i (some { o with state := .paying, payment := some payment }) with
        claim := some { slot := i, hire := o.hire, payment := payment } }
  /-- A session closed without its party's closing (R96). -/
  | release {l : Ledger} (c : Claim) (hclaim : l.claim = some c) :
      Move l { l.put c.slot ((l.occupants[c.slot]).map (·.turn .stopped)) with claim := none }
  /-- A session closed with its party (R78, R98). -/
  | settleClaim {l : Ledger} (c : Claim) (o : Occupant) (e : TripEntry) (hclaim : l.claim = some c)
      (h : l.occupants[c.slot] = some o) (hslot : e.slot = c.slot) (hhire : e.hire = o.hire) :
      Move l { (l.put c.slot (some (o.turn .closing))).enqueue (.trip e) with claim := none }
  /-- A STOPPED party closed (R78, R102, R106). -/
  | settle {l : Ledger} (i : Fin 4) (o : Occupant) (e : TripEntry) (h : l.occupants[i] = some o) (hstate : o.state = .stopped)
      (hslot : e.slot = i) (hhire : e.hire = o.hire) : Move l ((l.put i (some (o.turn .closing))).enqueue (.trip e))
  /-- SHIFT_OPEN (R133). -/
  | openShift {l : Ledger} (hshift : l.shift = .closed) (hnumber : l.number.isSome = true) (hroom : 1 ≤ l.free) :
      Move l { l with shift := .opened }
  /-- SHIFT_CLOSE (R134). -/
  | closeShift {l : Ledger} (r : ShiftReport) (hshift : l.shift = .opened) (hvacant : l.nonVacant = 0)
      (hnumber : r.number = l.number.getD 0) : Move l { l.enqueue (.shift r) with shift := .closing }
  /-- An entry of no hire, no shift and no set queued (R14, R97). -/
  | append {l : Ledger} (b : EntryBody) (hplain : b.plain) (htariff : b.isTariff = false)
      (hroom : l.nonVacant + l.shiftPlace < l.free) : Move l (l.enqueue b)
  /-- An armed set ACTIVATING (R26). -/
  | activate {l : Ledger} (b : EntryBody) (hplain : b.plain) (hidle : l.activating = false)
      (hroom : l.nonVacant + l.shiftPlace < l.free) : Move l { l.enqueue b with activating := true }
  /-- JOURNAL_ACK (R117). -/
  | ack {l : Ledger} (n : Nat) : Move l { l with stored := l.stored.filter (fun e => n < e.seq) }
  /-- APPEND_COMPLETE of a TRIP entry (R80). -/
  | storeTrip {l : Ledger} (e : TripEntry) (q : Bag EntryBody) (now : Stamp) (hqueue : l.queue = Bag.cons (.trip e) q) :
      Move l ((l.store now (.trip e) q).put e.slot none)
  /-- APPEND_COMPLETE of a SHIFT entry (R135). -/
  | storeShift {l : Ledger} (r : ShiftReport) (q : Bag EntryBody) (now : Stamp) (hqueue : l.queue = Bag.cons (.shift r) q) :
      Move l (l.store now (.shift r) q).closeShift
  /-- APPEND_COMPLETE of another entry, which ends an activation where it is a TARIFF entry (R15, R27). -/
  | storePlain {l : Ledger} (b : EntryBody) (q : Bag EntryBody) (now : Stamp) (hqueue : l.queue = Bag.cons b q)
      (hplain : b.plain) : Move l { l.store now b q with activating := l.activating && !b.isTariff }
  /-- POWER_LOSS between steps (R120). -/
  | powerOff {l : Ledger} (a : Bool) : Move l (l.powerOff a)
  /-- POWER_LOSS after the first update of a completion, or after the second one of a TRIP entry's (R121). -/
  | powerOffStored {l : Ledger} (b : EntryBody) (q : Bag EntryBody) (now : Stamp) (a : Bool)
      (hqueue : l.queue = Bag.cons b q) : Move l ((l.store now b q).powerOff a)
  /-- POWER_LOSS after the second update of a SHIFT entry's completion (R121). -/
  | powerOffClosed {l : Ledger} (r : ShiftReport) (q : Bag EntryBody) (now : Stamp) (a : Bool)
      (hqueue : l.queue = Bag.cons (.shift r) q) : Move l ((l.store now (.shift r) q).closeShift.powerOff a)

/-- An occupant as the restore leaves it: cleared where its TRIP entry is the newest stored one, CLOSING otherwise where it
was (R123), and STOPPED in every other case (R124). -/
inductive Occupant.Restored (newest : Option Nat) : Option Occupant → Option Occupant → Prop
  | vacant : Restored newest none none
  | cleared {o : Occupant} (h : o.state = .closing) (hnewest : newest = some o.hire) : Restored newest (some o) none
  | requeued {o : Occupant} (h : o.state = .closing) (hnewest : newest ≠ some o.hire) : Restored newest (some o) (some o)
  | stopped {o o' : Occupant} (h : o.state ≠ .closing) (hstate : o'.state = .stopped) : Restored newest (some o) (some o')

/-- The shift as the restore leaves it (R125). -/
inductive Ledger.ShiftRestored (l l' : Ledger) : Prop
  | kept (h : l.shift ≠ .closing) (hshift : l'.shift = l.shift) (hnumber : l'.number = l.number)
  | closed (h : l.shift = .closing) (hshift : l'.shift = .closed)
  | requeued (h : l.shift = .closing) (hnewest : l.newestNumber = none ∨ l.newestNumber ≠ l.number)
      (hshift : l'.shift = .closing) (hnumber : l'.number = l.number)

/-- The ledger after a restart (R122 to R125): no session, each slot and the shift judged, and in the queue the entries queued
again and nothing else. -/
structure Ledger.Restored (l l' : Ledger) : Prop where
  powered : l'.powered = true
  claim : l'.claim = none
  seatLimit : l'.seatLimit = l.seatLimit
  stored : l'.stored = l.stored
  nextSeq : l'.nextSeq = l.nextSeq
  occupants : ∀ i : Fin 4, Occupant.Restored l.newestHire l.occupants[i] l'.occupants[i]
  shift : l.ShiftRestored l'
  trips : ∀ i : Fin 4, l'.queue.countP (EntryBody.isTripAt i) = (if l'.holds .closing i then 1 else 0)
  hires : ∀ e, l'.queue.Has (.trip e) → (l'.occupants[e.slot]).map (·.hire) = some e.hire
  reports : l'.queue.countP EntryBody.isShift = (if l'.shift = .closing then 1 else 0)
  numbers : ∀ r, l'.queue.Has (.shift r) → r.number = l'.number.getD 0
  plain : ∀ b, l'.queue.Has b → b.plain → False

/-- One step of the ledger. -/
inductive Ledger.Step : Ledger → Ledger → Prop
  | move {l l' : Ledger} (hp : l.powered = true) (m : Move l l') : Ledger.Step l l'
  | restart {l l' : Ledger} (r : l.Restored l') : Ledger.Step l l'

/-- Some steps of the ledger. -/
abbrev Ledger.Steps : Ledger → Ledger → Prop := Reach Ledger.Step

end Sys2Proof.Machine
end


section
/-! The ledger of each shared operation, and the moves that each command makes of it. -/

namespace Sys2Proof.Machine

/-! ## What the ledger shows of a state -/

@[simp] theorem State.ledger_occupant (s : State) (i : Fin 4) : s.ledger.occupants[i] = (s.party i).map Party.occupant :=
  mapVector_getElem _ _ _

theorem State.ledger_nonVacant (s : State) : s.ledger.nonVacant = s.nonVacant := by
  rw [s.nonVacant_eq_countP_party]
  simp only [Ledger.nonVacant, State.ledger_occupant, Option.isSome_map]

theorem RecordStore.card_bodies (j : RecordStore) : j.bodies.card = j.queued := by
  simp [RecordStore.bodies, RecordStore.queued]

theorem State.ledger_free (s : State) : s.ledger.free = s.journal.free := by
  simp only [Ledger.free, RecordStore.free, State.ledger, RecordStore.card_bodies]

theorem State.ledger_shiftPlace (s : State) : s.ledger.shiftPlace = if s.shift.state = .opened then 1 else 0 := rfl

theorem RecordStore.append_bodies (j : RecordStore) (b : EntryBody) : (j.append b).bodies = Bag.cons b j.bodies := by
  have perm : ((j.append b).places ++ (j.append b).waiting).Perm (b :: (j.places ++ j.waiting)) := by
    unfold RecordStore.append
    split
    · rw [List.append_assoc]; exact List.perm_middle
    · rw [← List.append_assoc]; exact List.perm_append_comm
  exact Bag.of_eq_of_perm perm

/-- The first place's body leaves the queue at a completion. -/
theorem RecordStore.complete_bodies {j : RecordStore} {b : EntryBody} (e : Entry) (h : j.flying = some b) :
    j.bodies = Bag.cons b (j.complete e).bodies := by
  unfold RecordStore.flying at h
  split at h
  · obtain ⟨rest, hplaces⟩ : ∃ rest, j.places = b :: rest := List.head?_eq_some_iff.mp h
    simp only [RecordStore.bodies, RecordStore.complete, hplaces, List.tail_cons, List.append_assoc, List.take_append_drop]
    rfl
  · cases h

/-! ## What leaves the ledger as it is -/

/-- The ledger reads these parts alone. -/
theorem State.ledger_congr {s t : State} (htable : t.table = s.table) (hpay : t.pay = s.pay) (hjournal : t.journal = s.journal)
    (hshift : t.shift = s.shift) (hstage : t.store.stage = s.store.stage) (hpowered : t.powered = s.powered) :
    t.ledger = s.ledger := by
  simp only [State.ledger, htable, hpay, hjournal, hshift, hstage, hpowered]

@[simp] theorem State.putReply_ledger (s : State) (p : Port) (k : Nat) (st : Status) (res : List Byte) :
    (s.putReply p k st res).ledger = s.ledger := rfl

@[simp] theorem State.raise_ledger (s : State) (src : NoticeSource) : (s.raise src).ledger = s.ledger := rfl

@[simp] theorem State.raiseIf_ledger (s : State) (c : Bool) (src : NoticeSource) : (s.raiseIf c src).ledger = s.ledger := by
  cases c <;> rfl

@[simp] theorem State.settleGates_ledger (s : State) : s.settleGates.ledger = s.ledger := rfl

@[simp] theorem State.requestTone_ledger (s : State) (side : CodecSide) (t : Tone) :
    (s.requestTone side t).ledger = s.ledger := rfl

@[simp] theorem State.setIntercom_ledger (s : State) (c : Intercom) : (s.setIntercom c).ledger = s.ledger := rfl

@[simp] theorem State.updateSign_ledger (s : State) : s.updateSign.ledger = s.ledger :=
  State.ledger_congr (by simp) (by simp) (by simp) (by simp) (by simp) (by simp)

@[simp] theorem State.cancelTest_ledger (s : State) : s.cancelTest.ledger = s.ledger :=
  State.ledger_congr (by simp) (by simp) (by simp) (by simp) (by simp) (by simp)

@[simp] theorem State.advance_ledger (s : State) : s.advance.ledger = s.ledger := by
  simp only [State.ledger, State.advance, Payment.tick, Option.map_map]
  congr

/-! ## What changes it -/

theorem State.ledger_slots (s : State) (table : PartyTable) (i : Fin 4) (x : Option Party)
    (h : table.slots = s.table.slots.set i x) :
    ({ s with table := table } : State).ledger =
      { s.ledger.put i (x.map Party.occupant) with seatLimit := table.seatLimit } := by
  simp only [State.ledger, Ledger.put, Ledger.mk.injEq, and_true]
  refine Vector.ext fun j hj => ?_
  have := mapVector_getElem (Option.map Party.occupant) table.slots ⟨j, hj⟩
  have hs := mapVector_getElem (Option.map Party.occupant) s.table.slots ⟨j, hj⟩
  simp only [Fin.getElem_fin] at this hs
  rw [this, h, Vector.getElem_set, Vector.getElem_set, hs]
  split <;> rfl

@[simp] theorem State.setParty_ledger (s : State) (i : Fin 4) (x : Option Party) :
    (s.setParty i x).ledger = s.ledger.put i (x.map Party.occupant) :=
  s.ledger_slots _ i x rfl

@[simp] theorem Ledger.put_self (l : Ledger) (i : Fin 4) : l.put i l.occupants[i] = l := by
  simp [Ledger.put]

/-- A party record replaced by one of the same state, hire and payment. -/
theorem State.setParty_ledger_same {s : State} {i : Fin 4} {p q : Party} (h : s.party i = some p)
    (hq : q.occupant = p.occupant) : (s.setParty i (some q)).ledger = s.ledger := by
  rw [State.setParty_ledger, Option.map_some, hq, ← Option.map_some, ← h, ← State.ledger_occupant, Ledger.put_self]

@[simp] theorem State.append_ledger (s : State) (b : EntryBody) :
    ({ s with journal := s.journal.append b } : State).ledger = s.ledger.enqueue b := by
  obtain ⟨hstored, hseq, -⟩ := s.journal.append_stored b
  simp only [State.ledger, Ledger.enqueue, hstored, hseq, RecordStore.append_bodies]

@[simp] theorem State.gain_ledger (s : State) (f : Counters → Counters) :
    ({ s with shift := s.shift.gain f } : State).ledger = s.ledger := by
  unfold Shift.gain State.ledger
  split <;> rfl

/-! ## The moves of the requests -/

theorem Ledger.Steps.of_move {l l' : Ledger} (hp : l.powered = true) (m : Move l l') : l.Steps l' :=
  .single (.move hp m)

theorem Ledger.Steps.of_eq {l l' : Ledger} (h : l' = l) : l.Steps l' := h ▸ .refl

theorem setSeatLimit_steps (n : Nat) {s : State} (hp : s.powered = true) :
    s.ledger.Steps (setSeatLimit n s).state.ledger := by
  unfold setSeatLimit
  split
  · exact .refl
  · next hrange =>
    split
    · exact .refl
    · next hfit =>
      rw [State.updateSign_ledger]
      exact .of_move hp (.seats n (by omega) (by omega) (by rw [State.ledger_nonVacant]; omega))

theorem setDuty_ledger (v : Byte) (s : State) : (setDuty v s).state.ledger = s.ledger := by
  unfold setDuty
  split
  · rfl
  · rw [State.updateSign_ledger]; rfl
  · rw [State.updateSign_ledger]; rfl

theorem setOnCall_ledger (v : Byte) (s : State) : (setOnCall v s).state.ledger = s.ledger := by
  unfold setOnCall
  split
  · rfl
  · split
    · rfl
    · rw [State.updateSign_ledger]; rfl
  · rw [State.updateSign_ledger]; rfl

theorem startHireTaken_ledger (s : State) (i : Fin 4) (hire : Nat) (pin : Option TariffNo) :
    (startHireTaken s i hire pin).ledger = s.ledger.put i (some (newParty s.store hire pin).occupant) := by
  have h : ({ s with table := s.table.enroll i (newParty s.store hire pin) } : State).ledger =
      s.ledger.put i (some (newParty s.store hire pin).occupant) := s.ledger_slots (s.table.enroll i (newParty s.store hire pin)) i (some (newParty s.store hire pin)) rfl
  unfold startHireTaken
  simp only [State.settleGates_ledger, State.requestTone_ledger, State.raise_ledger]
  split <;> simp [h]

theorem State.lowestVacant_none {s : State} {i : Fin 4} (h : s.lowestVacant = some i) : s.party i = none := by
  unfold State.lowestVacant at h
  repeat' split at h
  all_goals simp_all

theorem startHire_steps (pin : Byte) {s : State} (hp : s.powered = true) : s.ledger.Steps (startHire pin s).state.ledger := by
  unfold startHire
  split
  · exact .refl
  split
  · exact .refl
  · next hclosing =>
    split
    · exact .refl
    · next hclosed =>
      split
      · exact .refl
      split
      · exact .refl
      split
      · exact .refl
      · next hseat =>
        split
        · exact .refl
        · next hroom =>
          split
          · next hvacant =>
            dsimp only
            rw [startHireTaken_ledger]
            refine .of_move hp (.hire _ _ ?_ rfl ?_ ?_ ?_)
            · rw [State.ledger_occupant, State.lowestVacant_none hvacant]; rfl
            · show s.shift.state = .opened
              cases h : s.shift.state <;> simp_all
            · rw [State.ledger_nonVacant]; exact Nat.lt_of_not_le hseat
            · rw [State.ledger_nonVacant, State.ledger_free]; exact Nat.le_of_not_lt hroom
          · exact .refl

theorem State.setParty_turn {s : State} {i : Fin 4} {p q : Party} (hp : s.powered = true) (h : s.party i = some p)
    (hfrom : p.state = .running ∨ p.state = .stopped) (hhire : q.hire = p.hire)
    (hto : q.state = .running ∨ q.state = .stopped) : s.ledger.Steps (s.setParty i (some q)).ledger := by
  rw [State.setParty_ledger]
  exact .of_move hp (.turn i p.occupant q.occupant (by rw [State.ledger_occupant, h]; rfl) hfrom hhire hto)

theorem stopHire_steps (slot : Byte) {s : State} (hp : s.powered = true) : s.ledger.Steps (stopHire slot s).state.ledger := by
  unfold stopHire
  split
  · exact .refl
  · split
    · exact .refl
    · next p hscreen =>
      obtain ⟨hparty, hstate⟩ := State.screen_ok hscreen
      split
      · exact .refl
      · split
        · exact .refl
        · simp only [State.updateSign_ledger, State.raise_ledger]
          exact State.setParty_turn hp hparty hstate rfl (.inr rfl)

theorem resumeHire_steps (slot : Byte) {s : State} (hp : s.powered = true) :
    s.ledger.Steps (resumeHire slot s).state.ledger := by
  unfold resumeHire
  split
  · exact .refl
  · split
    · exact .refl
    · next p hscreen =>
      obtain ⟨hparty, hstate⟩ := State.screen_ok hscreen
      split
      · exact .refl
      · split
        · exact .refl
        · simp only [State.updateSign_ledger]
          exact State.setParty_turn hp hparty hstate rfl (.inl rfl)

theorem addExtra_ledger (p : Port) (slot kind : Byte) (amount : Nat) (s : State) :
    (addExtra p slot kind amount s).state.ledger = s.ledger := by
  have screened : ∀ (i : Fin 4) (e : Extra), (addExtraScreened i e s).state.ledger = s.ledger := by
    intro i e
    unfold addExtraScreened
    split
    · rfl
    · next q hscreen =>
      repeat' split
      · rfl
      · rfl
      · exact State.setParty_ledger_same (State.screen_ok hscreen).1 rfl
  unfold addExtra
  repeat' split
  all_goals first | rfl | exact screened _ _

/-- A selection of the tariff changes neither the state nor the numbers of its party. -/
theorem Party.reselect_occupant (p : Party) (store : TariffStore) : (p.reselect store).occupant = p.occupant := by
  unfold Party.reselect
  split <;> rfl

theorem pinTariff_ledger (slot tariff : Byte) (s : State) : (pinTariff slot tariff s).state.ledger = s.ledger := by
  unfold pinTariff
  split
  · split
    · rfl
    · next hscreen =>
      exact State.setParty_ledger_same (State.screen_ok hscreen).1 (Party.reselect_occupant _ _)
  · rfl

theorem payOpenTaken_ledger (s : State) (i : Fin 4) (p : Party) :
    (payOpenTaken s i p).ledger =
      { s.ledger.put i (some { p.occupant with state := .paying, payment := some s.pay.counter }) with
        claim := some { slot := i, hire := p.hire, payment := s.pay.counter } } := by
  have h := s.setParty_ledger i (some { p with state := .paying, payment := some s.pay.counter })
  unfold payOpenTaken
  simp only [State.updateSign_ledger, State.raise_ledger]
  exact congrArg (fun l : Ledger => { l with claim := some { slot := i, hire := p.hire, payment := s.pay.counter } }) h

theorem payOpen_steps (slot : Byte) {s : State} (hp : s.powered = true) : s.ledger.Steps (payOpen slot s).state.ledger := by
  unfold payOpen
  split
  · exact .refl
  · split
    · exact .refl
    · next hsession =>
      split
      · exact .refl
      · next p hparty =>
        split
        · exact .refl
        · exact .refl
        · next hclosing hrunning =>
          split
          · exact .refl
          · dsimp only
            rw [payOpenTaken_ledger]
            refine .of_move hp (.lock _ p.occupant _ ?_ (by rw [State.ledger_occupant, hparty]; rfl) hclosing)
            simpa [State.ledger] using hsession

theorem payTip_ledger (payment hire tip : Nat) (s : State) : (payTip payment hire tip s).state.ledger = s.ledger := by
  unfold payTip
  split
  · rfl
  · split
    · rfl
    · next x hsession =>
      split
      · rfl
      · split
        · rfl
        · next p hparty =>
          have h := State.setParty_ledger_same (q := { p with tip := p.limitTip s.shift.tipCap tip }) hparty rfl
          refine Eq.trans ?_ h
          simp [payTipTaken, State.ledger, hsession, Session.claim]

theorem pinState_ledger (v : Byte) (s : State) : (pinState v s).state.ledger = s.ledger := by
  unfold pinState
  split
  · rfl
  · split
    · rfl
    · next x hsession =>
      (repeat' split) <;> simp [State.ledger, hsession, Session.claim, Payment.startGuard, State.settleGates]

/-- The close of a session ends its claim. -/
theorem State.close_ledger (s : State) (x : Session) (cause : CloseCause) :
    ({ s with pay := s.pay.close x cause } : State).ledger = { s.ledger with claim := none } := rfl

theorem State.releaseParty_ledger (s : State) (i : Fin 4) :
    (s.releaseParty i).ledger = s.ledger.put i ((s.ledger.occupants[i]).map (·.turn .stopped)) := by
  cases h : s.party i with
  | none =>
    have hnone : s.ledger.occupants[i] = none := by rw [State.ledger_occupant, h]; rfl
    rw [State.releaseParty_none h, hnone, Option.map_none, ← hnone, Ledger.put_self]
  | some p =>
    rw [State.releaseParty_some h, State.setParty_ledger, State.ledger_occupant, h]
    rfl

/-- A session closed, with its party STOPPED again. -/
theorem State.close_release_steps {s : State} {x : Session} (cause : CloseCause) (hp : s.powered = true)
    (hx : s.pay.session = some x) :
    s.ledger.Steps (({ s with pay := s.pay.close x cause } : State).releaseParty x.slot).ledger := by
  rw [State.releaseParty_ledger, State.close_ledger]
  exact .of_move hp (.release x.claim (by simp [State.ledger, hx]))

/-- The same with a count of the shift (R100, R101). -/
theorem State.close_gain_release_steps {s : State} {x : Session} (cause : CloseCause) (f : Counters → Counters)
    (hp : s.powered = true) (hx : s.pay.session = some x) :
    s.ledger.Steps
      (({ s with pay := s.pay.close x cause, shift := s.shift.gain f } : State).releaseParty x.slot).ledger := by
  have h := State.close_release_steps (s := { s with shift := s.shift.gain f }) cause hp hx
  rwa [State.gain_ledger] at h

theorem State.enterClosing_ledger (s : State) (i : Fin 4) (p : Party) :
    (s.enterClosing i p).ledger = (s.ledger.put i (some (p.occupant.turn .closing))).enqueue
      (.trip (tripEntry s.meas.cal.k i { p with state := .closing, payment := none })) := by
  rw [State.enterClosing_eq]
  exact (State.append_ledger (s.setParty i (some { p with state := .closing, payment := none })) _).trans
    (by rw [State.setParty_ledger]; rfl)

/-- A STOPPED party that enters CLOSING. -/
theorem State.enterClosing_steps {s : State} {i : Fin 4} {p q : Party} (hp : s.powered = true) (h : s.party i = some p)
    (hstate : p.state = .stopped) (hq : q.occupant = p.occupant) : s.ledger.Steps (s.enterClosing i q).ledger := by
  have hhire : q.hire = p.hire := congrArg Occupant.hire hq
  rw [State.enterClosing_ledger, hq]
  exact .of_move hp (.settle i p.occupant _ (by rw [State.ledger_occupant, h]; rfl) hstate rfl hhire)

/-- A tender of a STOPPED party. -/
theorem State.applyTender_steps {s : State} {i : Fin 4} {p q : Party} (t : Tender) (hp : s.powered = true)
    (h : s.party i = some p) (hstate : p.state = .stopped) (hq : q.occupant = p.occupant) :
    s.ledger.Steps (s.applyTender i q t).ledger := by
  obtain ⟨-, he⟩ | ⟨-, he⟩ := s.applyTender_cases i q t <;> rw [he]
  · exact State.enterClosing_steps hp h hstate hq
  · exact State.setParty_turn hp h (.inr hstate) (congrArg Occupant.hire hq) (.inr rfl)

/-- A tender of the open session's party, with the session's close. -/
theorem State.close_applyTender_steps {s : State} {x : Session} {p q : Party} (t : Tender) (hp : s.powered = true)
    (hx : s.pay.session = some x) (h : s.party x.slot = some p) (hq : q.occupant = p.occupant) :
    s.ledger.Steps (({ s with pay := s.pay.close x .result } : State).applyTender x.slot q t).ledger := by
  have hhire : q.hire = p.hire := congrArg Occupant.hire hq
  have hclaim : s.ledger.claim = some x.claim := by simp [State.ledger, hx]
  have hoccupant : s.ledger.occupants[x.slot] = some p.occupant := by rw [State.ledger_occupant, h]; rfl
  obtain ⟨-, he⟩ | ⟨-, he⟩ :=
    State.applyTender_cases ({ s with pay := s.pay.close x .result } : State) x.slot q t <;> rw [he]
  · rw [State.enterClosing_ledger, State.close_ledger]
    have hmove := Move.settleClaim x.claim p.occupant
      (tripEntry s.meas.cal.k x.slot { q with tenders := q.tenders ++ [t], state := .closing, payment := none })
      hclaim hoccupant rfl hhire
    rw [← hq] at hmove
    exact .of_move hp hmove
  · have hturn : q.occupant.turn .stopped = p.occupant.turn .stopped := congrArg (Occupant.turn · .stopped) hq
    have hrelease := State.close_release_steps .result hp hx
    rw [State.releaseParty_some (s := { s with pay := s.pay.close x .result }) h, State.setParty_ledger] at hrelease
    rw [State.setParty_ledger]
    exact (congrArg (fun o => s.ledger.Steps (Ledger.put _ x.slot (some o))) hturn).mpr hrelease

theorem queueOrphan_steps (o : OrphanEntry) {s : State} (hp : s.powered = true) (hroom : s.orphanRoom = true) :
    s.ledger.Steps (s.queueOrphan o).ledger := by
  have hledger : (s.queueOrphan o).ledger = s.ledger.enqueue (.orphan o) := by
    unfold State.queueOrphan
    rw [State.raise_ledger]
    exact (State.gain_ledger { s with journal := s.journal.append (.orphan o) } _).trans (s.append_ledger _)
  rw [hledger]
  refine .of_move hp (.append _ ⟨rfl, fun _ => rfl⟩ rfl ?_)
  rw [State.ledger_nonVacant, State.ledger_shiftPlace, State.ledger_free]
  simp only [State.orphanRoom, Bool.and_eq_true, decide_eq_true_eq] at hroom
  exact hroom.1

theorem applyOpen_steps {x : Session} {p : Party} (offline : Bool) (amount reference : Nat) {s : State}
    (hp : s.powered = true) (hx : s.pay.session = some x) (h : s.party x.slot = some p) :
    s.ledger.Steps (applyOpen x p offline amount reference s).state.ledger := by
  simp only [applyOpen, State.settleGates_ledger, State.requestTone_ledger, State.raise_ledger, State.updateSign_ledger]
  exact State.close_applyTender_steps _ hp hx h rfl

theorem orphanOpen_steps {x : Session} (offline : Bool) (amount reference : Nat) {s : State} (hp : s.powered = true)
    (hx : s.pay.session = some x) : s.ledger.Steps (orphanOpen x offline amount reference s).state.ledger := by
  unfold orphanOpen
  split
  · next hroom =>
    simp only [State.settleGates_ledger, State.requestTone_ledger, State.raise_ledger, State.updateSign_ledger]
    exact (queueOrphan_steps _ hp hroom).trans (State.close_release_steps .result (by simpa using hp) (by simpa using hx))
  · exact .refl

theorem declineOpen_steps {x : Session} (declined : Bool) {s : State} (hp : s.powered = true)
    (hx : s.pay.session = some x) : s.ledger.Steps (declineOpen x declined s).state.ledger := by
  simp only [declineOpen, State.settleGates_ledger, State.requestTone_ledger, State.raise_ledger, State.updateSign_ledger]
  exact State.close_gain_release_steps .result _ hp hx

theorem lateParty_some {s : State} {it : RecentSession} {amount : Nat} {p : Party} (h : s.lateParty it amount = some p) :
    s.party it.slot = some p ∧ p.state = .stopped := by
  unfold State.lateParty at h
  split at h
  · cases h
  · next q hq =>
    split at h
    · next hfit =>
      obtain rfl : q = p := by simpa using h
      exact ⟨hq, hfit.2.2.1⟩
    · cases h

theorem applyLate_steps {it : RecentSession} {p : Party} (offline : Bool) (amount reference : Nat) {s : State}
    (hp : s.powered = true) (h : s.party it.slot = some p) (hstate : p.state = .stopped) :
    s.ledger.Steps (applyLate it p offline amount reference s).state.ledger := by
  simp only [applyLate, State.raise_ledger, State.updateSign_ledger]
  exact State.applyTender_steps (s := { s with pay := { s.pay with recent := markResult s.pay.recent it } }) _ hp h hstate rfl

theorem orphanLate_steps (found : Option RecentSession) (payment : Nat) (offline : Bool) (amount reference : Nat) {s : State}
    (hp : s.powered = true) : s.ledger.Steps (orphanLate found payment offline amount reference s).state.ledger := by
  unfold orphanLate
  split
  · next hroom =>
    split
    · exact queueOrphan_steps (s := { s with pay := { s.pay with recent := markResult s.pay.recent _ } }) _ hp hroom
    · exact queueOrphan_steps _ hp hroom
  · exact .refl

theorem openFor_some {s : State} {payment hire : Nat} {x : Session} (h : s.openFor payment hire = some x) :
    s.pay.session = some x := by
  unfold State.openFor at h
  split at h
  · cases h
  · next y hy =>
    split at h
    · rwa [← h]
    · cases h

theorem approveOpen_steps {x : Session} (offline : Bool) (amount reference : Nat) {s : State} (hp : s.powered = true)
    (hx : s.pay.session = some x) : s.ledger.Steps (approveOpen x offline amount reference s).state.ledger := by
  unfold approveOpen
  split
  · exact orphanOpen_steps offline amount reference hp hx
  · next p hparty =>
    split
    · exact applyOpen_steps offline amount reference hp hx hparty
    · exact orphanOpen_steps offline amount reference hp hx

theorem approveLate_steps (payment hire : Nat) (offline : Bool) (amount reference : Nat) {s : State} (hp : s.powered = true) :
    s.ledger.Steps (approveLate payment hire offline amount reference s).state.ledger := by
  unfold approveLate
  split
  · exact orphanLate_steps none payment offline amount reference hp
  · split
    · next hlate => exact applyLate_steps offline amount reference hp (lateParty_some hlate).1 (lateParty_some hlate).2
    · exact orphanLate_steps _ payment offline amount reference hp

theorem approval_steps (payment hire : Nat) (offline : Bool) (amount reference : Nat) {s : State} (hp : s.powered = true) :
    s.ledger.Steps (approval payment hire offline amount reference s).state.ledger := by
  unfold approval
  split
  · exact .refl
  · split
    · next hopen => exact approveOpen_steps offline amount reference hp (openFor_some hopen)
    · exact approveLate_steps payment hire offline amount reference hp

theorem decline_steps (payment hire : Nat) (declined : Bool) {s : State} (hp : s.powered = true) :
    s.ledger.Steps (decline payment hire declined s).state.ledger := by
  unfold decline
  split
  · next hopen => exact declineOpen_steps declined hp (openFor_some hopen)
  · exact .refl

theorem payResult_steps (payment hire : Nat) (outcome : Byte) (amount reference : Nat) {s : State} (hp : s.powered = true) :
    s.ledger.Steps (payResult payment hire outcome amount reference s).state.ledger := by
  unfold payResult
  split
  · exact .refl
  · split
    · exact .refl
    · exact approval_steps payment hire false amount reference hp
    · exact approval_steps payment hire true amount reference hp
    · exact decline_steps payment hire true hp
    · exact decline_steps payment hire false hp

theorem cashSettle_steps (slot : Byte) (amount : Nat) {s : State} (hp : s.powered = true) :
    s.ledger.Steps (cashSettle slot amount s).state.ledger := by
  have taken : ∀ {i : Fin 4} {p : Party}, s.party i = some p → p.state = .stopped →
      s.ledger.Steps (cashTaken i p amount s).state.ledger := by
    intro i p hparty hstate
    simp only [cashTaken, State.updateSign_ledger]
    split
    · exact State.enterClosing_steps hp hparty hstate rfl
    · exact State.applyTender_steps _ hp hparty hstate rfl
  unfold cashSettle
  split
  · exact .refl
  · split
    · exact .refl
    · split
      · exact .refl
      · next p hparty =>
        split
        · exact .refl
        · exact .refl
        · exact .refl
        · next hstate =>
          split
          · exact .refl
          · split
            · exact .refl
            · exact taken hparty hstate

theorem shiftOpen_steps (driver : Nat) {s : State} (hp : s.powered = true) :
    s.ledger.Steps (shiftOpen driver s).state.ledger := by
  unfold shiftOpen
  split
  · exact .refl
  split
  · exact .refl
  · next hclosing =>
    split
    · exact .refl
    · next hopened =>
      split
      · exact .refl
      split
      · exact .refl
      · next hroom =>
        split
        · exact .refl
        · next n hnumber =>
          rw [State.updateSign_ledger]
          refine .of_move hp (.openShift ?_ ?_ ?_)
          · show s.shift.state = .closed
            cases h : s.shift.state <;> simp_all
          · exact Option.isSome_iff_exists.mpr ⟨n, hnumber⟩
          · rw [State.ledger_free]; exact Nat.le_of_not_lt hroom

theorem shiftClose_steps {s : State} (hp : s.powered = true) : s.ledger.Steps (shiftClose s).state.ledger := by
  unfold shiftClose
  split
  · exact .refl
  · next hclosing =>
    split
    · exact .refl
    · next hclosed =>
      split
      · exact .refl
      · next hvacant =>
        rw [State.updateSign_ledger]
        have hmove : Move s.ledger _ := .closeShift s.closingReport
          (show s.shift.state = .opened by cases h : s.shift.state <;> simp_all)
          (by rw [State.ledger_nonVacant]; exact Classical.not_not.mp hvacant) rfl
        rw [← State.append_ledger] at hmove
        exact .of_move hp hmove

theorem journalAck_steps (seq : Nat) {s : State} (hp : s.powered = true) :
    s.ledger.Steps (journalAck seq s).state.ledger := by
  unfold journalAck
  split
  · exact .refl
  · exact .of_move hp (.ack seq)

theorem State.inService_false {s : State} (h : ¬s.inService = true) : s.shift.state = .closed ∧ s.nonVacant = 0 := by
  simpa [State.inService] using h

theorem calAdoptTaken_ledger (course n k : Nat) (ceiling : Option Nat) (s : State) :
    (calAdoptTaken course n k ceiling s).state.ledger = s.ledger.enqueue (.calibration s.meas.cal.k k s.meas.cal.ceiling
      (ceiling.getD s.meas.cal.ceiling) (satAdd max32 s.meas.cal.count 1)) :=
  State.append_ledger (s.setRun (.adopting course n k ceiling)) _

theorem calAdopt_steps (ceiling : Nat) {s : State} (hp : s.powered = true) :
    s.ledger.Steps (calAdopt ceiling s).state.ledger := by
  unfold calAdopt
  split
  · exact .refl
  · split
    · exact .refl
    · split
      · exact .refl
      · split
        · split
          · exact .refl
          · next hservice =>
            obtain ⟨hshift, hvacant⟩ := State.inService_false hservice
            split
            · exact .refl
            · next hroom =>
              obtain ⟨hfree, -⟩ := not_or.mp hroom
              rw [calAdoptTaken_ledger]
              refine .of_move hp (.append _ ⟨rfl, fun _ => rfl⟩ rfl ?_)
              rw [State.ledger_nonVacant, State.ledger_shiftPlace, State.ledger_free, hvacant, hshift]
              exact Nat.pos_of_ne_zero hfree
        · exact .refl

/-! ## The moves of the events -/

theorem Party.atClosure_occupant (store : TariffStore) (k p n : Nat) (x : Party) :
    (x.atClosure store k p n).occupant = x.occupant := by
  have metered : (x.metered store k p n).occupant = x.occupant := by
    unfold Party.metered
    split <;> rfl
  have zoneEntry : ∀ y : Party, (y.zoneEntry store).occupant = y.occupant := by
    intro y
    unfold Party.zoneEntry Party.enter
    repeat' split
    all_goals rfl
  unfold Party.atClosure
  split
  · rw [zoneEntry, Party.reselect_occupant, metered]
  · rfl

theorem State.closed_ledger (s : State) (sense : LampSense) : (s.closed sense).ledger = s.ledger := by
  have hslots : mapVector (Option.map Party.occupant) (s.closed sense).table.slots =
      mapVector (Option.map Party.occupant) s.table.slots := by
    refine Vector.ext fun i hi => ?_
    refine ((s.closed sense).ledger_occupant ⟨i, hi⟩).trans (Eq.trans ?_ (s.ledger_occupant ⟨i, hi⟩).symm)
    rw [State.closed_party, Option.map_map]
    exact congrArg (Option.map · _) (funext fun x => x.atClosure_occupant _ _ _ _)
  have hshift : (s.closed sense).shift.state = s.shift.state ∧ (s.closed sense).shift.number = s.shift.number := by
    unfold State.closed Shift.gain
    dsimp only
    split <;> exact ⟨rfl, rfl⟩
  unfold State.ledger
  rw [hslots, hshift.1, hshift.2]
  rfl

theorem State.tryActivate_steps {s : State} (hp : s.powered = true) : s.ledger.Steps s.tryActivate.ledger := by
  obtain h | ⟨v, hstage, hmay, h⟩ := s.tryActivate_cases
  · exact .of_eq (congrArg State.ledger h)
  · rw [h]
    simp only [State.mayActivate, Bool.and_eq_true, decide_eq_true_eq] at hmay
    obtain ⟨⟨hvacant, hroom⟩, -⟩ := hmay
    have hmove : Move s.ledger _ := .activate (.tariff s.store.activeVersion v) ⟨rfl, fun _ => rfl⟩
      (show s.store.stage.isActivating = false by rw [hstage]; rfl) (by
        rw [State.ledger_nonVacant, State.ledger_shiftPlace, State.ledger_free, hvacant]
        split at hroom <;> rename_i hopen <;> simp only [hopen, if_true, if_false] <;> omega)
    rw [← State.append_ledger] at hmove
    exact .of_move hp hmove

theorem windowClose_steps (sense : LampSense) {s : State} (hp : s.powered = true) :
    s.ledger.Steps (windowClose sense s).ledger := by
  have h := State.tryActivate_steps (s := s.closed sense) hp
  rw [State.closed_ledger] at h
  simpa only [windowClose, State.settleGates_ledger, State.raiseIf_ledger] using h

theorem sessionExpiry_steps {s : State} (hp : s.powered = true) : s.ledger.Steps (sessionExpiry s).ledger := by
  unfold sessionExpiry
  split
  · exact .refl
  · next x hexpired =>
    have hx : s.pay.session = some x := (Option.filter_eq_some_iff.mp hexpired).1
    simp only [State.settleGates_ledger, State.requestTone_ledger, State.raise_ledger, State.updateSign_ledger]
    exact State.close_gain_release_steps .expired _ hp hx

/-! ## The moves of a completion -/

/-- The ledger after the first update of a completion. -/
theorem State.complete_ledger {s : State} {b : EntryBody} (hflying : s.journal.flying = some b) :
    ∃ q, s.ledger.queue = Bag.cons b q ∧
      ({ s with journal := s.journal.complete (storedEntry s.journal.nextSeq s.store.now b) } : State).ledger =
        s.ledger.store s.store.now b q :=
  ⟨_, RecordStore.complete_bodies (storedEntry s.journal.nextSeq s.store.now b) hflying, rfl⟩

theorem Shift.countTrip_state (u : Shift) (e : TripEntry) :
    (u.countTrip e).state = u.state ∧ (u.countTrip e).number = u.number := by
  unfold Shift.countTrip Shift.gain
  dsimp only
  split <;> exact ⟨rfl, rfl⟩

/-- Counting a trip changes no book. -/
@[simp] theorem State.countTrip_ledger (s : State) (e : TripEntry) :
    ({ s with shift := s.shift.countTrip e } : State).ledger = s.ledger := by
  obtain ⟨hstate, hnumber⟩ := s.shift.countTrip_state e
  simp only [State.ledger, hstate, hnumber]

theorem State.closeAt_ledger (s : State) (t : Stamp) :
    ({ s with shift := s.shift.closeAt t } : State).ledger = s.ledger.closeShift := rfl

/-- The consequences of a stored entry of no hire and no shift (R15, R27, R97). -/
theorem State.afterStored_plain_ledger (s : State) {e : Entry} (h : e.body.plain) :
    (s.afterStored e).ledger = { s.ledger with activating := s.ledger.activating && !e.body.isTariff } := by
  obtain ⟨hshift, htrip⟩ := h
  cases hb : e.body with
  | trip t => exact absurd (htrip t.slot) (by simp [hb, EntryBody.isTripAt])
  | shift r => simp [hb, EntryBody.isShift] at hshift
  | orphan o => simp only [State.afterStored, hb, EntryBody.isTariff, Bool.not_false, Bool.and_true]
  | calibration oldK newK oldCeiling newCeiling newCount =>
    simp only [State.afterStored, hb, EntryBody.isTariff, Bool.not_false, Bool.and_true]
    rfl
  | tariff oldVersion newVersion =>
    simp only [State.afterStored, hb, EntryBody.isTariff, Bool.not_true, Bool.and_false, State.raise_ledger]
    rfl

theorem State.afterStored_trip_ledger (s : State) {e : Entry} {t : TripEntry} (h : e.body = .trip t) :
    (s.afterStored e).ledger = s.ledger.put t.slot none := by
  simp only [State.afterStored, h, State.updateSign_ledger]
  exact (State.countTrip_ledger (s.setParty t.slot none) t).trans (s.setParty_ledger t.slot none)

theorem State.afterStored_shift_ledger (s : State) {e : Entry} {r : ShiftReport} (h : e.body = .shift r) :
    (s.afterStored e).ledger = s.ledger.closeShift := by
  simp only [State.afterStored, h, State.raise_ledger, State.updateSign_ledger]
  rfl

theorem appendComplete_steps {s : State} (hp : s.powered = true) : s.ledger.Steps (appendComplete s).ledger := by
  obtain ⟨-, h⟩ | ⟨b, hflying, h⟩ := appendComplete_cases s
  · exact .of_eq (congrArg State.ledger h)
  · obtain ⟨q, hqueue, hledger⟩ := State.complete_ledger hflying
    have plain : ∀ hb : (storedEntry s.journal.nextSeq s.store.now b).body = b, b.plain →
        s.ledger.Steps (appendComplete s).ledger := fun hb hplain => by
      rw [h, State.afterStored_plain_ledger _ (hb.symm ▸ hplain), hledger, hb]
      exact .of_move hp (.storePlain b q _ hqueue hplain)
    cases b with
    | trip e =>
      rw [h, State.afterStored_trip_ledger _ rfl, hledger]
      exact .of_move hp (.storeTrip e q _ hqueue)
    | shift r =>
      rw [h, State.afterStored_shift_ledger _ rfl, hledger]
      exact .of_move hp (.storeShift r q _ hqueue)
    | orphan | calibration | tariff => exact plain rfl ⟨rfl, fun _ => rfl⟩

/-! ## The moves of a loss of power -/

theorem powerLoss_ledger (cut : PowerCut) (s : State) :
    (powerLoss cut s).ledger = (s.cutAt cut).ledger.powerOff (s.cutAt cut).store.stage.isActivating := rfl

theorem State.markCounted_ledger (s : State) (i : Fin 4) : (s.markCounted i).ledger = s.ledger := by
  unfold State.markCounted
  cases h : s.party i with
  | none => rw [State.setParty_ledger, Option.map_none, Option.map_none, ← Option.map_none (f := Party.occupant), ← h,
      ← State.ledger_occupant, Ledger.put_self]
  | some p => exact State.setParty_ledger_same h rfl

/-- The first update changes no book beside the storing, but for an activation's end (R121). -/
theorem State.firstUpdate_ledger (s : State) (e : Entry) :
    ∃ a, (s.firstUpdate e).ledger = { s.ledger with activating := a } := by
  unfold State.firstUpdate
  split
  · next h => exact ⟨_, s.afterStored_plain_ledger (by rw [h]; exact ⟨rfl, fun _ => rfl⟩)⟩
  · next h => exact ⟨_, s.afterStored_plain_ledger (by rw [h]; exact ⟨rfl, fun _ => rfl⟩)⟩
  · exact ⟨_, rfl⟩

theorem powerLoss_steps (cut : PowerCut) {s : State} (hp : s.powered = true) : s.ledger.Steps (powerLoss cut s).ledger := by
  rw [powerLoss_ledger]
  generalize (s.cutAt cut).store.stage.isActivating = a
  have between : s.ledger.Steps (s.ledger.powerOff a) := .of_move hp (.powerOff a)
  cases hhead : s.storeHead with
  | none => cases cut <;> simpa only [State.cutAt, hhead] using between
  | some x =>
    obtain ⟨e, t⟩ := x
    obtain ⟨b, hflying, rfl, rfl⟩ := State.storeHead_eq hhead
    obtain ⟨q, hqueue, hledger⟩ := State.complete_ledger hflying
    have first : s.ledger.Steps ((State.firstUpdate
        { s with journal := s.journal.complete (storedEntry s.journal.nextSeq s.store.now b) }
        (storedEntry s.journal.nextSeq s.store.now b)).ledger.powerOff a) := by
      obtain ⟨a', h⟩ := State.firstUpdate_ledger
        { s with journal := s.journal.complete (storedEntry s.journal.nextSeq s.store.now b) }
        (storedEntry s.journal.nextSeq s.store.now b)
      rw [h, hledger]
      exact .of_move hp (.powerOffStored b q _ a hqueue)
    cases cut with
    | betweenSteps => exact between
    | afterFirstUpdate => simpa only [State.cutAt, hhead] using first
    | afterSecondUpdate =>
      simp only [State.cutAt, hhead]
      cases b with
      | trip e =>
        have h := State.countTrip_ledger
          (State.markCounted { s with journal := s.journal.complete (storedEntry s.journal.nextSeq s.store.now (.trip e)) } e.slot) e
        rw [State.markCounted_ledger, hledger] at h
        refine .of_move hp ?_
        have hmove := Move.powerOffStored (l := s.ledger) (.trip e) q s.store.now a hqueue
        rw [← h] at hmove
        exact hmove
      | shift r =>
        have hmove := Move.powerOffClosed (l := s.ledger) r q s.store.now a hqueue
        rw [← hledger] at hmove
        exact .of_move hp hmove
      | orphan | calibration | tariff => exact first

end Sys2Proof.Machine
end


section
/-! The ledger of a restart: the restore judges the slots in number order, and then the shift (R122 to R125). -/

namespace Sys2Proof.Machine

/-- The ledger with the slots below `k` restored: those are judged, the others as they were, and the queue holds the TRIP
entries queued again and nothing else (R123, R124). -/
structure Ledger.SlotsRestored (l : Ledger) (k : Nat) (m : Ledger) : Prop where
  rest : m = { l with occupants := m.occupants, queue := m.queue }
  judged : ∀ i : Fin 4, i.val < k → Occupant.Restored l.newestHire l.occupants[i] m.occupants[i]
  unjudged : ∀ i : Fin 4, k ≤ i.val → m.occupants[i] = l.occupants[i]
  trips : ∀ i : Fin 4, m.queue.countP (EntryBody.isTripAt i) = (if i.val < k ∧ m.holds .closing i then 1 else 0)
  hires : ∀ e, m.queue.Has (.trip e) → (m.occupants[e.slot]).map (·.hire) = some e.hire
  only : ∀ b, m.queue.Has b → ∃ e, b = .trip e

theorem Ledger.put_occupant (l : Ledger) (i j : Fin 4) (o : Option Occupant) :
    (l.put i o).occupants[j] = if i = j then o else l.occupants[j] := by
  simp only [Ledger.put, Fin.getElem_fin, Vector.getElem_set, Fin.ext_iff]

@[simp] theorem Ledger.put_occupant_self (l : Ledger) (i : Fin 4) (o : Option Occupant) : (l.put i o).occupants[i] = o := by
  simp [Ledger.put]

theorem Ledger.put_occupant_other {l : Ledger} {i j : Fin 4} (o : Option Occupant) (h : i ≠ j) :
    (l.put i o).occupants[j] = l.occupants[j] := by
  rw [Ledger.put_occupant, if_neg h]

@[simp] theorem Ledger.enqueue_queue (l : Ledger) (b : EntryBody) : (l.enqueue b).queue = Bag.cons b l.queue := rfl

theorem Ledger.enqueue_has {l : Ledger} {b c : EntryBody} : (l.enqueue b).queue.Has c ↔ c = b ∨ l.queue.Has c :=
  Bag.cons_has

theorem Ledger.put_holds (l : Ledger) (i j : Fin 4) (o : Option Occupant) (st : PartyState) :
    (l.put i o).holds st j = if i = j then o.any (fun x => decide (x.state = st)) else l.holds st j := by
  simp only [Ledger.holds, Ledger.put_occupant]
  split <;> rfl

/-- A slot below which every slot is judged has no entry in the queue yet. -/
theorem Ledger.SlotsRestored.no_trip {l m : Ledger} {i : Fin 4} (h : l.SlotsRestored i.val m) :
    ∀ e, m.queue.Has (.trip e) → e.slot ≠ i := by
  intro e he hslot
  have hpos : 0 < m.queue.countP (EntryBody.isTripAt i) :=
    Bag.countP_pos.mpr ⟨_, he, by simp [EntryBody.isTripAt, hslot]⟩
  rw [h.trips i, if_neg (by omega)] at hpos
  exact absurd hpos (Nat.lt_irrefl 0)

/-- A slot judged without an entry: it is not CLOSING after it. -/
theorem Ledger.SlotsRestored.put {l m : Ledger} {i : Fin 4} (h : l.SlotsRestored i.val m) {o : Option Occupant}
    (ho : Occupant.Restored l.newestHire l.occupants[i] o) (hopen : ∀ x, o = some x → x.state ≠ .closing) :
    l.SlotsRestored (i.val + 1) (m.put i o) where
  rest := by rw [h.rest]; rfl
  judged j hj := by
    by_cases hij : i = j
    · subst hij; rwa [Ledger.put_occupant_self]
    · rw [Ledger.put_occupant_other o hij]
      exact h.judged j (by have := Fin.val_ne_of_ne hij; omega)
  unjudged j hj := by
    rw [Ledger.put_occupant_other o (fun hij => by subst hij; omega)]
    exact h.unjudged j (by omega)
  trips j := by
    rw [show (m.put i o).queue = m.queue from rfl, h.trips j, Ledger.put_holds]
    by_cases hij : i = j
    · subst hij
      cases o with
      | none => simp
      | some x => simp [hopen x rfl]
    · have : j.val < i.val ↔ j.val < i.val + 1 := by have := Fin.val_ne_of_ne hij; omega
      simp only [hij, if_false, this]
  hires e he := by
    rw [Ledger.put_occupant_other o (h.no_trip e he).symm]
    exact h.hires e he
  only := h.only

/-- A CLOSING slot judged to queue its entry again. -/
theorem Ledger.SlotsRestored.enqueue {l m : Ledger} {i : Fin 4} (h : l.SlotsRestored i.val m) {o : Occupant} {e : TripEntry}
    (ho : l.occupants[i] = some o) (hclosing : o.state = .closing) (hnewest : l.newestHire ≠ some o.hire)
    (hslot : e.slot = i) (hhire : e.hire = o.hire) : l.SlotsRestored (i.val + 1) (m.enqueue (.trip e)) where
  rest := by rw [h.rest]; rfl
  judged j hj := by
    by_cases hij : i = j
    · subst hij
      rw [show (m.enqueue (.trip e)).occupants = m.occupants from rfl, h.unjudged i (Nat.le_refl _), ho]
      exact .requeued hclosing hnewest
    · exact h.judged j (by have := Fin.val_ne_of_ne hij; omega)
  unjudged j hj := h.unjudged j (by omega)
  trips j := by
    have hqueue : (m.enqueue (.trip e)).queue = Bag.cons (.trip e) m.queue := rfl
    have hholds : (m.enqueue (.trip e)).holds .closing j = m.holds .closing j := rfl
    rw [hqueue, Bag.countP_cons, h.trips j, hholds]
    by_cases hij : i = j
    · subst hij
      have hclosed : m.holds .closing i = true := by simp [Ledger.holds, h.unjudged i (Nat.le_refl _), ho, hclosing]
      simp [hclosed, EntryBody.isTripAt, hslot]
    · have : j.val < i.val ↔ j.val < i.val + 1 := by have := Fin.val_ne_of_ne hij; omega
      simp [EntryBody.isTripAt, hslot, hij, this]
  hires e' he' := by
    obtain heq | hmem := Bag.cons_has.mp he'
    · obtain rfl : e' = e := by simpa using heq
      subst hslot
      rw [show (m.enqueue (.trip e')).occupants = m.occupants from rfl, h.unjudged _ (Nat.le_refl _), ho, hhire]
      rfl
    · exact h.hires e' hmem
  only b hb := by
    obtain rfl | hmem := Bag.cons_has.mp hb
    · exact ⟨e, rfl⟩
    · exact h.only b hmem

theorem State.newestTrip_ledger (s : State) : s.ledger.newestHire = s.journal.newestTrip.map (·.hire) := rfl

theorem State.newestShift_ledger (s : State) : s.ledger.newestNumber = s.journal.newestShift.map (·.1.number) := rfl

theorem Party.restored_state {p : Party} (now : Stamp) (h : p.state ≠ .closing) : (p.restored now).state = .stopped := by
  unfold Party.restored
  cases hs : p.state <;> simp_all

/-- One slot judged (R123, R124). -/
theorem State.restoreSlot_restored {l : Ledger} {s : State} {i : Fin 4} (h : l.SlotsRestored i.val s.ledger) :
    l.SlotsRestored (i.val + 1) (s.restoreSlot i).ledger := by
  have hslot := h.unjudged i (Nat.le_refl _)
  have hnewest : s.journal.newestTrip.map (·.hire) = l.newestHire := by
    rw [← State.newestTrip_ledger, h.rest]; rfl
  rw [State.ledger_occupant] at hslot
  obtain ⟨p, t, hparty, hclosing, htrip, hhire, he⟩ | ⟨p, hparty, hclosing, hother, he⟩ | ⟨p, hparty, hopen, he⟩ |
    ⟨hparty, he⟩ := s.restoreSlot_cases i <;> rw [he] <;> rw [hparty] at hslot
  · have hput : l.SlotsRestored (i.val + 1) (s.setParty i none).ledger := by
      rw [State.setParty_ledger]
      exact h.put (hslot ▸ .cleared hclosing (by rw [← hnewest, htrip, Option.map_some, hhire]; rfl)) nofun
    split
    · exact hput
    · exact (State.countTrip_ledger (s.setParty i none) t).symm ▸ hput
  · rw [State.append_ledger]
    exact h.enqueue hslot.symm hclosing (hnewest ▸ hother) rfl rfl
  · rw [State.setParty_ledger]
    refine h.put (hslot ▸ .stopped hopen (Party.restored_state _ hopen)) fun x hx => ?_
    obtain rfl : Party.occupant _ = x := by simpa using hx
    simp [Party.occupant, Party.restored_state _ hopen]
  · have hput := h.put (o := none) (hslot ▸ .vacant) nofun
    rwa [← Option.map_none (f := Party.occupant), ← hparty, ← State.ledger_occupant, Ledger.put_self] at hput

/-- The four slots judged. -/
theorem State.restoreSlots_restored {s : State} (hqueue : s.ledger.queue = .empty) :
    s.ledger.SlotsRestored 4 ((((s.restoreSlot 0).restoreSlot 1).restoreSlot 2).restoreSlot 3).ledger := by
  have start : s.ledger.SlotsRestored (0 : Fin 4).val s.ledger :=
    { rest := rfl
      judged := fun _ h => absurd h (Nat.not_lt_zero _)
      unjudged := fun _ _ => rfl
      trips := fun i => by simp [hqueue]
      hires := fun e he => by simp [hqueue] at he
      only := fun b hb => by simp [hqueue] at hb }
  have h0 := State.restoreSlot_restored start
  have h1 := State.restoreSlot_restored (i := 1) h0
  have h2 := State.restoreSlot_restored (i := 2) h1
  exact State.restoreSlot_restored (i := 3) h2

/-! ## The shift and the whole restart -/

theorem Ledger.SlotsRestored.reports {l m : Ledger} {k : Nat} (h : l.SlotsRestored k m) :
    m.queue.countP EntryBody.isShift = 0 :=
  Bag.countP_eq_zero.mpr fun b hb => by
    obtain ⟨e, rfl⟩ := h.only b hb
    simp [EntryBody.isShift]

/-- The queue's entries after the slots are judged are of some hire. -/
theorem Ledger.SlotsRestored.not_plain {l m : Ledger} {k : Nat} (h : l.SlotsRestored k m) :
    ∀ b, m.queue.Has b → ¬b.plain := by
  rintro b hb ⟨-, htrip⟩
  obtain ⟨e, rfl⟩ := h.only b hb
  simpa [EntryBody.isTripAt] using htrip e.slot

/-- The shift judged after the slots (R125). -/
theorem State.restoreShift_restored {l : Ledger} {s : State} (hslots : l.SlotsRestored 4 s.ledger)
    (hpowered : l.powered = true) (hclaim : l.claim = none) : l.Restored s.restoreShift.ledger := by
  have hrest := hslots.rest
  have hon : s.ledger.powered = true := (congrArg Ledger.powered hrest).trans hpowered
  have hnone : s.ledger.claim = none := (congrArg Ledger.claim hrest).trans hclaim
  have hseats : s.ledger.seatLimit = l.seatLimit := (congrArg Ledger.seatLimit hrest).trans rfl
  have hstored : s.ledger.stored = l.stored := (congrArg Ledger.stored hrest).trans rfl
  have hseq : s.ledger.nextSeq = l.nextSeq := (congrArg Ledger.nextSeq hrest).trans rfl
  have hshift : s.shift.state = l.shift := congrArg Ledger.shift hrest
  have hnumber : s.shift.number = l.number := congrArg Ledger.number hrest
  have hnewest : s.journal.newestShift.map (·.1.number) = l.newestNumber := by
    rw [← State.newestShift_ledger, hrest]; rfl
  have hjudged : ∀ i : Fin 4, Occupant.Restored l.newestHire l.occupants[i] s.ledger.occupants[i] :=
    fun i => hslots.judged i i.isLt
  have htrips : ∀ i : Fin 4, s.ledger.queue.countP (EntryBody.isTripAt i) = (if s.ledger.holds .closing i then 1 else 0) :=
    fun i => by rw [hslots.trips i]; simp
  obtain ⟨hopen, he⟩ | ⟨r, t, hclosing, -, -, he⟩ | ⟨hclosing, hother, r, he⟩ := s.restoreShift_cases
  · rw [he]
    have hstate : s.ledger.shift ≠ .closing := hopen
    exact
      { powered := hon, claim := hnone, seatLimit := hseats, stored := hstored, nextSeq := hseq, occupants := hjudged, trips := htrips, hires := hslots.hires
        shift := .kept (hshift ▸ hopen) hshift hnumber
        reports := by rw [hslots.reports, if_neg hstate]
        numbers := fun r hr => by obtain ⟨e, he⟩ := hslots.only _ hr; cases he
        plain := hslots.not_plain }
  · rw [he, State.raise_ledger, State.closeAt_ledger]
    exact
      { powered := hon, claim := hnone, seatLimit := hseats, stored := hstored, nextSeq := hseq, occupants := hjudged, trips := htrips, hires := hslots.hires
        shift := .closed (hshift ▸ hclosing) rfl
        reports := hslots.reports
        numbers := fun r hr => by obtain ⟨e, he⟩ := hslots.only _ hr; cases he
        plain := hslots.not_plain }
  · have hrequeued : s.restoreShift = { s with journal := s.journal.append (.shift
        (s.shift.report (s.shift.number.getD 0) (s.shift.closingK.getD s.meas.cal.k) (s.shift.closingRate.getD 0) none)) } := by
      unfold State.restoreShift
      rw [if_pos hclosing]
      split
      · rfl
      · next r' t' hr' => rw [if_neg (hother r' t' hr')]
    rw [hrequeued, State.append_ledger]
    have hstate : s.ledger.shift = .closing := hclosing
    exact
      { powered := hon, claim := hnone, seatLimit := hseats, stored := hstored, nextSeq := hseq, occupants := hjudged
        trips := fun i => (Bag.countP_cons_of_neg _ (by simp [EntryBody.isTripAt])).trans (htrips i)
        hires := fun e he => hslots.hires e ((Ledger.enqueue_has.mp he).resolve_left nofun)
        shift := .requeued (hshift ▸ hclosing) (by
          rw [← hnewest, ← hnumber]
          cases hn : s.journal.newestShift with
          | none => exact .inl rfl
          | some x => exact .inr fun h => hother x.1 x.2 hn h.symm) hclosing hnumber
        reports := by
          rw [if_pos (show (s.ledger.enqueue _).shift = _ from hstate)]
          rw [Ledger.enqueue_queue, Bag.countP_cons_of_pos _ (by rfl), hslots.reports]
        numbers := fun r' hr' => by
          rw [Ledger.enqueue_queue] at hr'
          obtain heq | hmem := Bag.cons_has.mp hr'
          · cases heq; rfl
          · obtain ⟨e, he⟩ := hslots.only _ hmem; cases he
        plain := fun b hb => by
          rw [Ledger.enqueue_queue] at hb
          obtain rfl | hmem := Bag.cons_has.mp hb
          · rintro ⟨h, -⟩; simp [EntryBody.isShift] at h
          · exact hslots.not_plain b hmem }

/-- The ledger as the restore finds it. -/
theorem State.wake_ledger (s : State) (levels : InputLevels) (backup : Backup) :
    (s.wake levels backup).ledger =
      { s.ledger with claim := none, queue := .empty, activating := false, powered := true } := by
  have hstage : s.store.stage.rearm.isActivating = false := by cases s.store.stage <;> rfl
  simp only [State.ledger, State.wake, State.dropVolatile, Payment.restarted, RecordStore.restarted, hstage]
  rfl

theorem State.firstSign_ledger (s : State) : s.firstSign.ledger = s.ledger := rfl

theorem State.countInterruption_ledger (s : State) : s.countInterruption.ledger = s.ledger := by
  rw [State.countInterruption, State.raise_ledger, State.gain_ledger]

theorem restart_step (levels : InputLevels) (backup : Backup) (s : State) :
    s.ledger.Step (restart levels backup s).ledger := by
  have hwake := s.wake_ledger levels backup
  have hslots := State.restoreSlots_restored (s := s.wake levels backup) (by rw [hwake])
  have hrestored := State.restoreShift_restored hslots (by rw [hwake]) (by rw [hwake])
  have hledger : (restart levels backup s).ledger = (State.restoreShift ((((
      (s.wake levels backup).restoreSlot 0).restoreSlot 1).restoreSlot 2).restoreSlot 3)).ledger := by
    rw [restart, State.firstSign_ledger, State.restore, State.countInterruption_ledger]
  rw [hledger]
  rw [hwake] at hrestored
  exact .restart ⟨hrestored.powered, hrestored.claim, hrestored.seatLimit, hrestored.stored, hrestored.nextSeq,
    hrestored.occupants, match hrestored.shift with
      | .kept h hs hn => .kept h hs hn
      | .closed h hs => .closed h hs
      | .requeued h hnew hs hn => .requeued h hnew hs hn,
    hrestored.trips, hrestored.hires, hrestored.reports, hrestored.numbers, hrestored.plain⟩

/-! ## Every command and every step -/

theorem request_steps {p : Port} {k : Kind} {body : State → Answer} {s t : State} (h : request p k body s = .next t)
    (hbody : s.powered = true → s.ledger.Steps (body s).state.ledger) : s.ledger.Steps t.ledger := by
  obtain ⟨-, rfl⟩ | ⟨-, -, rfl⟩ | ⟨hp, -, rfl⟩ := request_cases h
  · exact .refl
  · exact .refl
  · exact hbody hp

theorem event_steps {f : State → State} {s t : State} (h : event f s = .next t)
    (hf : s.powered = true → s.ledger.Steps (f s).ledger) : s.ledger.Steps t.ledger := by
  obtain ⟨-, rfl⟩ | ⟨hp, rfl⟩ := event_cases h
  · exact .refl
  · exact hf hp

/-- A change of parts that the ledger does not read. -/
theorem ChangesOnly.ledger {l : List Part} {s t : State} (h : ChangesOnly l s t)
    (hl : ∀ d ∈ [Part.store, .table, .pay, .journal, .shift, .powered], d ∉ l) : s.ledger.Steps t.ledger :=
  .of_eq (State.ledger_congr (h .table (hl _ (by decide))) (h .pay (hl _ (by decide))) (h .journal (hl _ (by decide)))
    (h .shift (hl _ (by decide))) (congrArg TariffStore.stage (h .store (hl _ (by decide))))
    (h .powered (hl _ (by decide))))

theorem setPinGuard_ledger (time : Nat) (s : State) : (setPinGuard time s).state.ledger = s.ledger := by
  unfold setPinGuard
  split <;> rfl

/-- The fleet settings are in no book (R140). -/
theorem fleetSettings_ledger (v : Nat) (s : State) :
    (setCommission v s).state.ledger = s.ledger ∧ (setOfflineCap v s).state.ledger = s.ledger ∧
    (setTipCap v s).state.ledger = s.ledger ∧ (setHoldLimit v s).state.ledger = s.ledger := by
  unfold setCommission setOfflineCap setTipCap setHoldLimit
  refine ⟨?_, ?_, ?_, ?_⟩ <;> split <;> rfl

theorem tariffBegin_ledger (s : State) : (tariffBegin s).state.ledger = s.ledger := by
  unfold tariffBegin
  cases hstage : s.store.stage <;> simp only [State.ledger, hstage, refuse] <;> rfl

theorem tariffItem_ledger (kind number form : Byte) (fields : BitVec 176) (s : State) :
    (tariffItem kind number form fields s).state.ledger = s.ledger := by
  unfold tariffItem
  repeat' split
  all_goals rfl

theorem tariffCommit_ledger (version : BitVec 16) (s : State) : (tariffCommit version s).state.ledger = s.ledger := by
  unfold tariffCommit
  split
  · rfl
  · next hloading =>
    split
    · rfl
    · simp only [State.ledger, Classical.not_not.mp hloading, Stage.isActivating]

theorem setHoliday_ledger (v : Byte) (s : State) : (setHoliday v s).state.ledger = s.ledger := by
  unfold setHoliday
  split <;> rfl

theorem zoneReport_ledger (code : BitVec 16) (quality : Byte) (s : State) :
    (zoneReport code quality s).state.ledger = s.ledger := by
  unfold zoneReport
  split
  · rfl
  · rw [State.raiseIf_ledger]; rfl
  · rw [State.raiseIf_ledger]; rfl

theorem setZoneWatch_ledger (threshold limit : Nat) (s : State) :
    (setZoneWatch threshold limit s).state.ledger = s.ledger := by
  unfold setZoneWatch
  split <;> rfl

theorem clockSecond_ledger (s : State) : (clockSecond s).ledger = s.ledger := by
  unfold clockSecond TariffStore.advance State.ledger
  split <;> rfl

theorem zoneWatchExpiry_ledger (s : State) : (zoneWatchExpiry s).ledger = s.ledger := by
  unfold zoneWatchExpiry
  split
  · rw [State.raiseIf_ledger]; rfl
  · rfl

theorem pinGuardExpiry_ledger (s : State) : (pinGuardExpiry s).ledger = s.ledger := by
  unfold pinGuardExpiry
  split <;> rfl

theorem appendWriteStart_ledger (s : State) : (appendWriteStart s).ledger = s.ledger := rfl

/-- Every command moves the ledger by its own rule's moves. -/
theorem exec_steps {c : Instr} {s t : State} (h : exec c s = .next t) : s.ledger.Steps t.ledger := by
  have frame := (exec_frame h).ledger
  cases c
  case setSeatLimit => exact request_steps h (setSeatLimit_steps _)
  case startHire => exact request_steps h (startHire_steps _)
  case stopHire => exact request_steps h (stopHire_steps _)
  case resumeHire => exact request_steps h (resumeHire_steps _)
  case payOpen => exact request_steps h (payOpen_steps _)
  case payResult => exact request_steps h (payResult_steps _ _ _ _ _)
  case cashSettle => exact request_steps h (cashSettle_steps _ _)
  case shiftOpen => exact request_steps h (shiftOpen_steps _)
  case shiftClose => exact request_steps h shiftClose_steps
  case journalAck => exact request_steps h (journalAck_steps _)
  case calAdopt => exact request_steps h (calAdopt_steps _)
  case windowClose => exact event_steps h (windowClose_steps _)
  case sessionExpiry => exact event_steps h sessionExpiry_steps
  case appendComplete => exact event_steps h appendComplete_steps
  case powerLoss => exact event_steps h (powerLoss_steps _)
  case restart levels backup =>
    obtain rfl : restart levels backup s = t := by simpa [exec, execRestart] using h
    exact .single (restart_step levels backup s)
  case setDuty => exact request_steps h fun _ => .of_eq (setDuty_ledger _ _)
  case setOnCall => exact request_steps h fun _ => .of_eq (setOnCall_ledger _ _)
  case addExtra => exact request_steps h fun _ => .of_eq (addExtra_ledger _ _ _ _ _)
  case pinTariff => exact request_steps h fun _ => .of_eq (pinTariff_ledger _ _ _)
  case payTip => exact request_steps h fun _ => .of_eq (payTip_ledger _ _ _ _)
  case pinState => exact request_steps h fun _ => .of_eq (pinState_ledger _ _)
  case setPinGuard => exact request_steps h fun _ => .of_eq (setPinGuard_ledger _ _)
  case setCommission => exact request_steps h fun _ => .of_eq (fleetSettings_ledger _ _).1
  case setOfflineCap => exact request_steps h fun _ => .of_eq (fleetSettings_ledger _ _).2.1
  case setTipCap => exact request_steps h fun _ => .of_eq (fleetSettings_ledger _ _).2.2.1
  case setHoldLimit => exact request_steps h fun _ => .of_eq (fleetSettings_ledger _ _).2.2.2
  case tariffBegin => exact request_steps h fun _ => .of_eq (tariffBegin_ledger _)
  case tariffItem => exact request_steps h fun _ => .of_eq (tariffItem_ledger _ _ _ _ _)
  case tariffCommit => exact request_steps h fun _ => .of_eq (tariffCommit_ledger _ _)
  case setClock => exact request_steps h fun _ => .refl
  case setHoliday => exact request_steps h fun _ => .of_eq (setHoliday_ledger _ _)
  case zoneReport => exact request_steps h fun _ => .of_eq (zoneReport_ledger _ _ _)
  case setZoneWatch => exact request_steps h fun _ => .of_eq (setZoneWatch_ledger _ _ _)
  case clockSecond => exact event_steps h fun _ => .of_eq (clockSecond_ledger _)
  case zoneWatchExpiry => exact event_steps h fun _ => .of_eq (zoneWatchExpiry_ledger _)
  case pinGuardExpiry => exact event_steps h fun _ => .of_eq (pinGuardExpiry_ledger _)
  case appendWriteStart => exact event_steps h fun _ => .of_eq (appendWriteStart_ledger _)
  all_goals exact frame (by simp [touches])

/-- Every step moves the ledger by some of its moves, an idle one by those of its events. -/
theorem step_steps {s t : State} (h : step s = .next t) : s.ledger.Steps t.ledger :=
  step_keeps (P := fun u => s.ledger.Steps u.ledger) (fun _ _ _ hu hc => hu.trans (exec_steps hc)) (fun _ _ hu => hu)
    (fun u _ hu => u.advance_ledger ▸ hu) h .refl

end Sys2Proof.Machine
end


section
/-! Seats and shift (R63, R128, R134): the hires stay within the seat limit and inside an OPEN shift, and the SHIFT entry goes
with its CLOSING shift. -/

namespace Sys2Proof.Machine

/-! ## Counting over the slots -/

theorem countP_slots (f : Fin 4 → Bool) :
    (List.finRange 4).countP f = (f 0).toNat + (f 1).toNat + (f 2).toNat + (f 3).toNat := by
  have hbit : ∀ b : Bool, (if b = true then 1 else 0) = b.toNat := by decide
  rw [show List.finRange 4 = [0, 1, 2, 3] from rfl]
  simp only [List.countP_cons, List.countP_nil, hbit, Nat.zero_add]
  omega

/-- Two counts that differ in one slot alone. -/
theorem countP_slots_update {f g : Fin 4 → Bool} (i : Fin 4) (h : ∀ j, j ≠ i → f j = g j) :
    (List.finRange 4).countP f + (g i).toNat = (List.finRange 4).countP g + (f i).toNat := by
  rw [countP_slots, countP_slots]
  obtain rfl | rfl | rfl | rfl : i = 0 ∨ i = 1 ∨ i = 2 ∨ i = 3 := by omega
  · rw [h 1 (by decide), h 2 (by decide), h 3 (by decide)]; omega
  · rw [h 0 (by decide), h 2 (by decide), h 3 (by decide)]; omega
  · rw [h 0 (by decide), h 1 (by decide), h 3 (by decide)]; omega
  · rw [h 0 (by decide), h 1 (by decide), h 2 (by decide)]; omega

theorem Ledger.put_nonVacant (l : Ledger) (i : Fin 4) (o : Option Occupant) :
    (l.put i o).nonVacant + (l.occupants[i]).isSome.toNat = l.nonVacant + o.isSome.toNat := by
  have h := countP_slots_update (f := fun j => ((l.put i o).occupants[j]).isSome)
    (g := fun j => (l.occupants[j]).isSome) i (fun j hj => by rw [Ledger.put_occupant_other o (Ne.symm hj)])
  rwa [Ledger.put_occupant_self] at h

/-- A party whose state or numbers change keeps its slot taken. -/
theorem Ledger.put_nonVacant_some {l : Ledger} {i : Fin 4} {o : Occupant} (h : l.occupants[i] = some o) (o' : Occupant) :
    (l.put i (some o')).nonVacant = l.nonVacant := by
  have := l.put_nonVacant i (some o')
  rw [h] at this
  exact Nat.add_right_cancel this

theorem Ledger.put_nonVacant_vacant {l : Ledger} {i : Fin 4} (h : l.occupants[i] = none) (o : Occupant) :
    (l.put i (some o)).nonVacant = l.nonVacant + 1 := by
  simpa [h] using l.put_nonVacant i (some o)

theorem Ledger.put_nonVacant_none (l : Ledger) (i : Fin 4) : (l.put i none).nonVacant ≤ l.nonVacant := by
  have := l.put_nonVacant i none
  simp only [Option.isSome_none, Bool.toNat_false] at this
  omega

theorem Ledger.put_nonVacant_map (l : Ledger) (i : Fin 4) (f : Occupant → Occupant) :
    (l.put i ((l.occupants[i]).map f)).nonVacant = l.nonVacant := by
  simpa using l.put_nonVacant i ((l.occupants[i]).map f)

/-- The restore fills no slot. -/
theorem Ledger.Restored.nonVacant_le {l l' : Ledger} (r : l.Restored l') : l'.nonVacant ≤ l.nonVacant := by
  refine List.countP_mono_left fun i _ hi => ?_
  have hslot := r.occupants i
  generalize l.occupants[i] = x at hslot
  generalize l'.occupants[i] = y at hslot hi
  cases hslot <;> first | rfl | simp at hi

/-- Outside an OPEN shift no move fills a slot. -/
theorem Move.nonVacant_le {l l' : Ledger} (m : Move l l') (hshift : l.shift ≠ .opened) : l'.nonVacant ≤ l.nonVacant := by
  cases m
  case hire hopen _ _ => exact absurd hopen hshift
  case turn h _ _ _ => exact Nat.le_of_eq (Ledger.put_nonVacant_some h _)
  case lock h _ => exact Nat.le_of_eq (Ledger.put_nonVacant_some h _)
  case release c _ => exact Nat.le_of_eq (l.put_nonVacant_map c.slot _)
  case settleClaim h _ _ => exact Nat.le_of_eq (Ledger.put_nonVacant_some h _)
  case settle h _ _ _ => exact Nat.le_of_eq (Ledger.put_nonVacant_some h _)
  case storeTrip e q now _ => exact (l.store now (.trip e) q).put_nonVacant_none e.slot
  all_goals exact Nat.le_refl _

/-! ## Seats -/

def Ledger.SeatsFit (l : Ledger) : Prop := l.nonVacant ≤ l.seatLimit ∧ 1 ≤ l.seatLimit ∧ l.seatLimit ≤ 4

theorem State.seatsFit_iff (s : State) : s.SeatsFit ↔ s.ledger.SeatsFit := by
  unfold State.SeatsFit Ledger.SeatsFit
  rw [State.ledger_nonVacant]
  rfl

theorem Move.seatsFit {l l' : Ledger} (m : Move l l') (h : l.SeatsFit) : l'.SeatsFit := by
  obtain ⟨hfit, hlimit⟩ := h
  cases m
  case seats n hmin hmax hfit => exact ⟨hfit, hmin, hmax⟩
  case hire i o hvacant hstate hshift hseat hroom =>
    exact ⟨Nat.le_trans (Nat.le_of_eq (Ledger.put_nonVacant_vacant hvacant o)) hseat, hlimit⟩
  case turn h _ _ _ => exact ⟨Nat.le_trans (Nat.le_of_eq (Ledger.put_nonVacant_some h _)) hfit, hlimit⟩
  case lock h _ => exact ⟨Nat.le_trans (Nat.le_of_eq (Ledger.put_nonVacant_some h _)) hfit, hlimit⟩
  case release c _ => exact ⟨Nat.le_trans (Nat.le_of_eq (l.put_nonVacant_map c.slot _)) hfit, hlimit⟩
  case settleClaim h _ _ => exact ⟨Nat.le_trans (Nat.le_of_eq (Ledger.put_nonVacant_some h _)) hfit, hlimit⟩
  case settle h _ _ _ => exact ⟨Nat.le_trans (Nat.le_of_eq (Ledger.put_nonVacant_some h _)) hfit, hlimit⟩
  case storeTrip e q now _ => exact ⟨Nat.le_trans ((l.store now (.trip e) q).put_nonVacant_none e.slot) hfit, hlimit⟩
  all_goals exact ⟨hfit, hlimit⟩

theorem Ledger.Step.seatsFit {l l' : Ledger} (st : l.Step l') (h : l.SeatsFit) : l'.SeatsFit := by
  cases st with
  | move hp m => exact m.seatsFit h
  | restart r => exact ⟨Nat.le_trans r.nonVacant_le (r.seatLimit ▸ h.1), r.seatLimit ▸ h.2⟩

/-! ## The shift -/

/-- The queued entries of a kind. -/
abbrev Ledger.queued (l : Ledger) (f : EntryBody → Bool) : Nat := l.queue.countP f

theorem State.ledger_queued (s : State) (f : EntryBody → Bool) :
    s.ledger.queued f = (s.journal.places ++ s.journal.waiting).countP f := by
  simp [Ledger.queued, State.ledger, RecordStore.bodies]

theorem State.ledger_queue_has (s : State) (b : EntryBody) :
    s.ledger.queue.Has b ↔ b ∈ s.journal.places ++ s.journal.waiting := by
  simp [State.ledger, RecordStore.bodies]

def Ledger.ShiftCovers (l : Ledger) : Prop :=
  (l.shift ≠ .opened → l.nonVacant = 0) ∧ (l.shift ≠ .closed → l.number.isSome = true) ∧
  (l.powered = true → l.queued EntryBody.isShift = (if l.shift = .closing then 1 else 0) ∧
    ∀ r, l.queue.Has (.shift r) → l.number = some r.number)

theorem State.shiftCoversHires_iff (s : State) : s.ShiftCoversHires ↔ s.ledger.ShiftCovers := by
  unfold State.ShiftCoversHires Ledger.ShiftCovers
  rw [State.ledger_nonVacant, State.ledger_queued]
  simp only [State.ledger_queue_has]
  rfl

/-- What keeps the shift's cover where the shift stays as it is: no slot filled out of service, and the same SHIFT entries
queued, or power lost. -/
theorem Ledger.ShiftCovers.keep {l l' : Ledger} (h : l.ShiftCovers) (hshift : l'.shift = l.shift) (hnumber : l'.number = l.number)
    (hvacant : l.shift ≠ .opened → l'.nonVacant ≤ l.nonVacant)
    (hqueue : l'.powered = true → l.powered = true ∧ l'.queued EntryBody.isShift = l.queued EntryBody.isShift ∧
      ∀ r, l'.queue.Has (.shift r) → l.queue.Has (.shift r)) : l'.ShiftCovers := by
  obtain ⟨hcover, hsome, hpowered⟩ := h
  refine ⟨fun hs => ?_, fun hs => ?_, fun hp => ?_⟩
  · rw [hshift] at hs
    exact Nat.le_zero.mp (hcover hs ▸ hvacant hs)
  · rw [hshift] at hs
    rw [hnumber]
    exact hsome hs
  · obtain ⟨hp', hcount, hmem⟩ := hqueue hp
    obtain ⟨hcount', hnum⟩ := hpowered hp'
    rw [hcount, hcount', hshift, hnumber]
    exact ⟨rfl, fun r hr => hnum r (hmem r hr)⟩

theorem Move.shiftCovers {l l' : Ledger} (hp : l.powered = true) (m : Move l l') (h : l.ShiftCovers) : l'.ShiftCovers := by
  have hle := m.nonVacant_le
  obtain ⟨hcover, hsome, hpowered⟩ := id h
  obtain ⟨hcount, hnum⟩ := hpowered hp
  have cons_mem : ∀ {b : EntryBody} {q : Bag EntryBody} (r : ShiftReport), EntryBody.isShift b = false →
      (Bag.cons b q).Has (.shift r) → q.Has (.shift r) := fun r hb hr =>
    (Bag.cons_has.mp hr).resolve_left (by rintro rfl; simp [EntryBody.isShift] at hb)
  cases m
  case closeShift r hopened hvacant hnumber =>
    have hnumber' : l.number = some r.number := by
      obtain ⟨n, hn⟩ := Option.isSome_iff_exists.mp (hsome (by rw [hopened]; decide))
      rw [hn, hnumber, hn]; rfl
    refine ⟨fun _ => hvacant, fun _ => Option.isSome_iff_exists.mpr ⟨_, hnumber'⟩, fun _ => ⟨?_, fun r' hr' => ?_⟩⟩
    · refine (Bag.countP_cons_of_pos _ rfl).trans ?_
      show l.queued EntryBody.isShift + 1 = _
      rw [hcount, hopened]; rfl
    · obtain heq | hmem := Bag.cons_has.mp hr'
      · cases heq; exact hnumber'
      · exact hnum r' hmem
  case openShift hclosed hnumber _ =>
    rw [hclosed] at hcount
    exact ⟨fun hne => absurd rfl hne, fun _ => hnumber, fun _ => ⟨hcount, hnum⟩⟩
  case storeShift r q now hqueue =>
    have hclosing : l.shift = .closing := by
      refine Classical.byContradiction fun hne => ?_
      rw [Ledger.queued, hqueue, Bag.countP_cons_of_pos _ rfl, if_neg hne] at hcount
      omega
    rw [Ledger.queued, hqueue, Bag.countP_cons_of_pos _ rfl, if_pos hclosing] at hcount
    have hnone : q.countP EntryBody.isShift = 0 := by omega
    refine ⟨fun _ => hcover (by rw [hclosing]; decide), fun hne => absurd rfl hne, fun _ => ⟨hnone, fun r' hr' => ?_⟩⟩
    exact (Bag.countP_eq_zero.mp hnone _ hr' rfl).elim
  case powerOffClosed r q now a hqueue =>
    have hclosing : l.shift = .closing := by
      refine Classical.byContradiction fun hne => ?_
      rw [Ledger.queued, hqueue, Bag.countP_cons_of_pos _ rfl, if_neg hne] at hcount
      omega
    exact ⟨fun _ => hcover (by rw [hclosing]; decide), fun hne => absurd rfl hne, nofun⟩
  case powerOff => exact h.keep rfl rfl (fun _ => Nat.le_refl _) nofun
  case powerOffStored => exact h.keep rfl rfl (fun _ => Nat.le_refl _) nofun
  case settleClaim => exact h.keep rfl rfl hle fun _ => ⟨hp, Bag.countP_cons_of_neg _ rfl, fun r => cons_mem r rfl⟩
  case settle => exact h.keep rfl rfl hle fun _ => ⟨hp, Bag.countP_cons_of_neg _ rfl, fun r => cons_mem r rfl⟩
  case append hplain _ _ =>
    exact h.keep rfl rfl hle fun _ => ⟨hp, Bag.countP_cons_of_neg _ hplain.1, fun r => cons_mem r hplain.1⟩
  case activate hplain _ _ =>
    exact h.keep rfl rfl hle fun _ => ⟨hp, Bag.countP_cons_of_neg _ hplain.1, fun r => cons_mem r hplain.1⟩
  case storeTrip e q now hqueue =>
    refine h.keep rfl rfl hle fun _ => ⟨hp, ?_, fun r hr => by rw [hqueue]; exact Bag.cons_has_of_has hr⟩
    rw [Ledger.queued, Ledger.queued, hqueue]; exact (Bag.countP_cons_of_neg _ rfl).symm
  case storePlain b q now hqueue hplain =>
    refine h.keep rfl rfl hle fun _ => ⟨hp, ?_, fun r hr => by rw [hqueue]; exact Bag.cons_has_of_has hr⟩
    rw [Ledger.queued, Ledger.queued, hqueue]; exact (Bag.countP_cons_of_neg _ hplain.1).symm
  all_goals exact h.keep rfl rfl hle fun _ => ⟨hp, rfl, fun _ hr => hr⟩

theorem Ledger.Restored.shiftCovers {l l' : Ledger} (r : l.Restored l') (h : l.ShiftCovers) : l'.ShiftCovers := by
  obtain ⟨hcover, hsome, -⟩ := h
  have hvacant : ∀ hs : l.shift ≠ .opened, l'.nonVacant = 0 := fun hs => Nat.le_zero.mp (hcover hs ▸ r.nonVacant_le)
  have hnumbered : l'.shift ≠ .closed → l'.number.isSome = true := by
    intro hs
    cases r.shift with
    | kept _ hshift hnumber => rw [hnumber]; exact hsome (hshift ▸ hs)
    | closed _ hshift => exact absurd hshift hs
    | requeued hclosing _ _ hnumber => rw [hnumber]; exact hsome (by rw [hclosing]; decide)
  refine ⟨fun hs => ?_, hnumbered, fun _ => ⟨r.reports, fun e he => ?_⟩⟩
  · cases r.shift with
    | kept _ hshift _ => exact hvacant (hshift ▸ hs)
    | closed hclosing _ => exact hvacant (by rw [hclosing]; decide)
    | requeued hclosing _ _ _ => exact hvacant (by rw [hclosing]; decide)
  · have hclosing : l'.shift = .closing := by
      refine Classical.byContradiction fun hne => ?_
      have hpos : 0 < l'.queue.countP EntryBody.isShift := Bag.countP_pos.mpr ⟨_, he, rfl⟩
      rw [r.reports, if_neg hne] at hpos
      exact Nat.lt_irrefl 0 hpos
    obtain ⟨n, hn⟩ := Option.isSome_iff_exists.mp (hnumbered (by rw [hclosing]; decide))
    rw [r.numbers e he, hn]; rfl

theorem Ledger.Step.shiftCovers {l l' : Ledger} (st : l.Step l') (h : l.ShiftCovers) : l'.ShiftCovers := by
  cases st with
  | move hp m => exact m.shiftCovers hp h
  | restart r => exact r.shiftCovers h

/-- Settles O57: each step of the ledger keeps both invariants. -/
theorem shiftAndSeatsBoundHires : Obligations.ShiftAndSeatsBoundHires := by
  intro s t hseats hshift hstep
  rw [State.seatsFit_iff] at hseats ⊢
  rw [State.shiftCoversHires_iff] at hshift ⊢
  have hkeep : ∀ l, s.ledger.Steps l → l.SeatsFit ∧ l.ShiftCovers := fun l hl => by
    induction hl with
    | refl => exact ⟨hseats, hshift⟩
    | tail _ st ih => exact ⟨st.seatsFit ih.1, st.shiftCovers ih.2⟩
  exact hkeep t.ledger (step_steps hstep)

end Sys2Proof.Machine
end


section
/-! The session's lock and the CLOSING slots' entries (R78, R80, R85). -/

namespace Sys2Proof.Machine

/-! ## The two invariants on the ledger -/

/-- A PAYING occupant is the claim's, and the claim's occupant is PAYING under its numbers (R85). -/
def Ledger.Locks (l : Ledger) : Prop :=
  (∀ i : Fin 4, ∀ o, l.occupants[i] = some o → o.state = .paying → l.claim.map (·.slot) = some i) ∧
  (∀ c, l.claim = some c → l.occupants[c.slot] = some { state := .paying, hire := c.hire, payment := some c.payment })

/-- Each CLOSING slot has its one TRIP entry queued, under its hire number, and no other slot has any (R80). -/
def Ledger.TripsQueued (l : Ledger) : Prop :=
  (∀ i : Fin 4, l.queued (EntryBody.isTripAt i) = (if l.holds .closing i then 1 else 0)) ∧
  (∀ e, l.queue.Has (.trip e) → (l.occupants[e.slot]).map (·.hire) = some e.hire)

theorem State.sessionLocks_iff (s : State) : s.SessionLocksItsParty ↔ (s.ledger.powered = true → s.ledger.Locks) := by
  unfold State.SessionLocksItsParty Ledger.Locks
  refine imp_congr Iff.rfl (and_congr (forall_congr' fun i => ?_) ?_)
  · have hclaim : s.ledger.claim.map (·.slot) = s.pay.session.map (·.slot) := by
      simp only [State.ledger, Option.map_map]; rfl
    rw [State.ledger_occupant, hclaim]
    cases h : s.party i <;> simp [Party.occupant]
  · have key : ∀ x : Session, (∃ p, s.party x.slot = some p ∧ p.state = .paying ∧ p.hire = x.hire ∧
        p.payment = some x.payment) ↔
        s.ledger.occupants[x.slot] = some { state := .paying, hire := x.hire, payment := some x.payment } := fun x => by
      rw [State.ledger_occupant]
      cases h : s.party x.slot <;> simp [Party.occupant]
    simp only [key]
    cases h : s.pay.session <;> simp [State.ledger, h, Session.claim]

theorem State.holds_ledger (s : State) (st : PartyState) (i : Fin 4) : s.ledger.holds st i = slotIn st (s.party i) := by
  rw [Ledger.holds, State.ledger_occupant]
  cases s.party i <;> rfl

theorem State.closingQueued_iff (s : State) :
    s.ClosingSlotsAreQueued ↔ (s.ledger.powered = true → s.ledger.TripsQueued) := by
  unfold State.ClosingSlotsAreQueued Ledger.TripsQueued
  have hhire : ∀ i : Fin 4, (s.ledger.occupants[i]).map (·.hire) = (s.party i).map (·.hire) := fun i => by
    rw [State.ledger_occupant, Option.map_map]; rfl
  simp only [State.ledger_queued, State.holds_ledger, State.ledger_queue_has, hhire]
  rfl

/-! ## The lock -/

theorem Ledger.Locks.put {l : Ledger} (h : l.Locks) {i : Fin 4} {o : Option Occupant}
    (hold : ∀ x, l.occupants[i] = some x → x.state ≠ .paying) (hnew : ∀ x, o = some x → x.state ≠ .paying) :
    (l.put i o).Locks := by
  obtain ⟨hslot, hclaim⟩ := h
  refine ⟨fun j x hx hpaying => ?_, fun c hc => ?_⟩
  · by_cases hij : i = j
    · subst hij
      rw [Ledger.put_occupant_self] at hx
      exact absurd hpaying (hnew x hx)
    · rw [Ledger.put_occupant_other o hij] at hx
      exact hslot j x hx hpaying
  · have hoccupant := hclaim c hc
    have hne : i ≠ c.slot := by rintro rfl; exact hold _ hoccupant rfl
    rwa [Ledger.put_occupant_other o hne]

/-- With its session closed and its party no more PAYING, no slot is. -/
theorem Ledger.Locks.end_claim {l : Ledger} (h : l.Locks) {c : Claim} (hc : l.claim = some c) {o : Option Occupant}
    (hnew : ∀ x, o = some x → x.state ≠ .paying) {l' : Ledger} (hoccupants : l'.occupants = (l.put c.slot o).occupants)
    (hclaim : l'.claim = none) : l'.Locks := by
  refine ⟨fun j x hx hpaying => ?_, fun d hd => by simp [hclaim] at hd⟩
  rw [hoccupants] at hx
  by_cases hij : c.slot = j
  · subst hij
    rw [Ledger.put_occupant_self] at hx
    exact absurd hpaying (hnew x hx)
  · rw [Ledger.put_occupant_other o hij] at hx
    have := h.1 j x hx hpaying
    rw [hc] at this
    exact absurd (Option.some.inj this) hij

theorem Ledger.Locks.same {l l' : Ledger} (h : l.Locks) (hoccupants : l'.occupants = l.occupants)
    (hclaim : l'.claim = l.claim) : l'.Locks := by
  unfold Ledger.Locks
  rw [hoccupants, hclaim]
  exact h

/-! ## The entries -/

@[simp] theorem Ledger.put_queue (l : Ledger) (i : Fin 4) (o : Option Occupant) : (l.put i o).queue = l.queue := rfl

@[simp] theorem Ledger.store_queue (l : Ledger) (now : Stamp) (b : EntryBody) (q : Bag EntryBody) :
    (l.store now b q).queue = q := rfl

theorem EntryBody.isTripAt_trip (i : Fin 4) (e : TripEntry) : (EntryBody.trip e).isTripAt i = decide (e.slot = i) := rfl

/-- A queued TRIP entry's slot is CLOSING. -/
theorem Ledger.TripsQueued.closing {l : Ledger} (h : l.TripsQueued) {e : TripEntry} (he : l.queue.Has (.trip e)) :
    l.holds .closing e.slot = true := by
  refine Classical.byContradiction fun hopen => ?_
  have hpos : 0 < l.queued (EntryBody.isTripAt e.slot) :=
    Bag.countP_pos.mpr ⟨_, he, by simp [EntryBody.isTripAt_trip]⟩
  rw [h.1 e.slot, if_neg hopen] at hpos
  exact Nat.lt_irrefl 0 hpos

/-- A slot that was not CLOSING and is not. -/
theorem Ledger.TripsQueued.put {l : Ledger} (h : l.TripsQueued) {i : Fin 4} {o : Option Occupant}
    (hold : l.holds .closing i = false) (hnew : ∀ x, o = some x → x.state ≠ .closing) : (l.put i o).TripsQueued := by
  refine ⟨fun j => ?_, fun e he => ?_⟩
  · rw [Ledger.put_holds]
    by_cases hij : i = j
    · subst hij
      have hcount := h.1 i
      rw [hold] at hcount
      cases o with
      | none => simpa [Ledger.queued] using hcount
      | some x => simpa [Ledger.queued, hnew x rfl] using hcount
    · rw [if_neg hij]
      exact h.1 j
  · have hne : i ≠ e.slot := by rintro rfl; exact Bool.false_ne_true (hold.symm.trans (h.closing he))
    rw [Ledger.put_occupant_other o hne]
    exact h.2 e he

/-- A slot that enters CLOSING with its entry queued (R78). -/
theorem Ledger.TripsQueued.settle {l : Ledger} (h : l.TripsQueued) {i : Fin 4} {o : Occupant} {e : TripEntry}
    (hold : l.holds .closing i = false) (hclosing : o.state = .closing) (hslot : e.slot = i) (hhire : e.hire = o.hire) :
    ((l.put i (some o)).enqueue (.trip e)).TripsQueued := by
  have holds : ∀ j, ((l.put i (some o)).enqueue (.trip e)).holds .closing j = if i = j then true else l.holds .closing j :=
    fun j => (Ledger.put_holds l i j (some o) .closing).trans (by simp [hclosing])
  refine ⟨fun j => ?_, fun e' he' => ?_⟩
  · rw [holds]
    by_cases hij : i = j
    · subst hij
      have hcount := h.1 i
      rw [hold] at hcount
      refine (Bag.countP_cons_of_pos _ (by simp [EntryBody.isTripAt_trip, hslot])).trans ?_
      simpa [Ledger.queued] using hcount
    · refine (Bag.countP_cons_of_neg _ (by simp [EntryBody.isTripAt_trip, hslot, hij])).trans ?_
      rw [if_neg hij]
      exact h.1 j
  · obtain heq | hmem := Bag.cons_has.mp he'
    · cases heq
      subst hslot
      exact (congrArg (Option.map (·.hire)) (Ledger.put_occupant_self l e.slot (some o))).trans (congrArg some hhire.symm)
    · have hne : i ≠ e'.slot := by rintro rfl; exact Bool.false_ne_true (hold.symm.trans (h.closing hmem))
      exact (congrArg (Option.map (·.hire)) (Ledger.put_occupant_other (some o) hne)).trans (h.2 e' hmem)

/-- An entry stored, and its slot cleared where it is a TRIP entry's (R80). -/
theorem Ledger.TripsQueued.store_trip {l : Ledger} (h : l.TripsQueued) {e : TripEntry} {q : Bag EntryBody} (now : Stamp)
    (hqueue : l.queue = Bag.cons (.trip e) q) : ((l.store now (.trip e) q).put e.slot none).TripsQueued := by
  have hclosing := h.closing (e := e) (by rw [hqueue]; exact Bag.cons_has_self)
  have hcount : ∀ j : Fin 4, q.countP (EntryBody.isTripAt j) + (if e.slot = j then 1 else 0) =
      (if l.holds .closing j then 1 else 0) := fun j => by
    rw [← h.1 j, Ledger.queued, hqueue, Bag.countP_cons]
    simp [EntryBody.isTripAt_trip]
  have hgone : q.countP (EntryBody.isTripAt e.slot) = 0 := by
    have := hcount e.slot
    rw [if_pos rfl, if_pos hclosing] at this
    omega
  refine ⟨fun j => ?_, fun e' he' => ?_⟩
  · rw [Ledger.put_holds]
    by_cases hij : e.slot = j
    · subst hij
      simpa [Ledger.queued] using hgone
    · have := hcount j
      rw [if_neg hij] at this
      rw [if_neg hij]
      exact this
  · have hne : e.slot ≠ e'.slot := fun heq =>
      Bag.countP_eq_zero.mp hgone _ he' (by simp [EntryBody.isTripAt_trip, heq])
    exact (congrArg (Option.map (·.hire)) (Ledger.put_occupant_other (l := l.store now (.trip e) q) none hne)).trans
      (h.2 e' (by rw [hqueue]; exact Bag.cons_has_of_has he'))

/-- A queue that differs in entries of no hire. -/
theorem Ledger.TripsQueued.requeue {l l' : Ledger} (h : l.TripsQueued) (hoccupants : l'.occupants = l.occupants)
    (hcount : ∀ i, l'.queued (EntryBody.isTripAt i) = l.queued (EntryBody.isTripAt i))
    (hmem : ∀ e, l'.queue.Has (.trip e) → l.queue.Has (.trip e)) : l'.TripsQueued := by
  refine ⟨fun i => ?_, fun e he => ?_⟩
  · rw [hcount i, h.1 i, Ledger.holds, Ledger.holds, hoccupants]
  · rw [hoccupants]
    exact h.2 e (hmem e he)

theorem Ledger.TripsQueued.enqueue_other {l l' : Ledger} (h : l.TripsQueued) {b : EntryBody} (hb : ∀ i, b.isTripAt i = false)
    (hoccupants : l'.occupants = l.occupants) (hqueue : l'.queue = Bag.cons b l.queue) : l'.TripsQueued := by
  refine h.requeue hoccupants (fun i => ?_) fun e he => ?_
  · rw [Ledger.queued, hqueue]
    exact Bag.countP_cons_of_neg _ (hb i)
  · rw [hqueue] at he
    exact (Bag.cons_has.mp he).resolve_left (by rintro rfl; simpa [EntryBody.isTripAt_trip] using hb e.slot)

theorem Ledger.TripsQueued.store_other {l l' : Ledger} (h : l.TripsQueued) {b : EntryBody} (hb : ∀ i, b.isTripAt i = false)
    (hoccupants : l'.occupants = l.occupants) (hqueue : l.queue = Bag.cons b l'.queue) : l'.TripsQueued := by
  refine h.requeue hoccupants (fun i => ?_) fun e he => ?_
  · rw [Ledger.queued, Ledger.queued, hqueue]
    exact (Bag.countP_cons_of_neg _ (hb i)).symm
  · rw [hqueue]
    exact Bag.cons_has_of_has he

/-! ## Every step -/

/-- While the part is powered, the session locks its party and the CLOSING slots have their entries. -/
def Ledger.Sound (l : Ledger) : Prop := l.powered = true → l.Locks ∧ l.TripsQueued

theorem Ledger.not_holds {l : Ledger} {i : Fin 4} {o : Occupant} (h : l.occupants[i] = some o) (hs : o.state ≠ .closing) :
    l.holds .closing i = false := by
  simp [Ledger.holds, h, hs]

theorem Move.sound {l l' : Ledger} (hp : l.powered = true) (m : Move l l') (h : l.Sound) : l'.Sound := by
  obtain ⟨hlocks, htrips⟩ := h hp
  have claimed : ∀ {c : Claim} {o : Occupant}, l.claim = some c → l.occupants[c.slot] = some o → o.state = .paying :=
    fun hc ho => by
      have := ho.symm.trans (hlocks.2 _ hc)
      rw [Option.some.inj this]
  intro hp'
  cases m
  case hire i o hvacant hstate _ _ _ =>
    exact ⟨hlocks.put (by simp [hvacant]) (by rintro x ⟨⟩; simp [hstate]),
      htrips.put (by simp [Ledger.holds, hvacant]) (by rintro x ⟨⟩; simp [hstate])⟩
  case turn i o o' ho hfrom _ hto =>
    have hne : ∀ {x : PartyState}, x = .running ∨ x = .stopped → x ≠ .paying ∧ x ≠ .closing := by
      rintro x (rfl | rfl) <;> decide
    exact ⟨hlocks.put (by rw [ho]; rintro x ⟨⟩; exact (hne hfrom).1) (by rintro x ⟨⟩; exact (hne hto).1),
      htrips.put (Ledger.not_holds ho (hne hfrom).2) (by rintro x ⟨⟩; exact (hne hto).2)⟩
  case lock i o payment hclaim ho hclosing =>
    refine ⟨⟨fun j x hx hpaying => ?_, fun c hc => ?_⟩, ?_⟩
    · by_cases hij : i = j
      · rw [hij]; rfl
      · have hx' := (Ledger.put_occupant_other (some { o with state := .paying, payment := some payment }) hij).symm.trans hx
        have := hlocks.1 j x hx' hpaying
        simp [hclaim] at this
    · obtain rfl := Option.some.inj hc
      exact Ledger.put_occupant_self l i _
    · exact (htrips.put (o := some { o with state := .paying, payment := some payment }) (Ledger.not_holds ho hclosing)
        (by rintro x ⟨⟩; simp)).requeue rfl (fun _ => rfl) fun _ he => he
  case release c hclaim =>
    have ho := hlocks.2 c hclaim
    have hnew : ∀ x, (l.occupants[c.slot]).map (·.turn .stopped) = some x → x.state = .stopped := by
      rw [ho]; rintro x ⟨⟩; rfl
    exact ⟨hlocks.end_claim hclaim (fun x hx => by rw [hnew x hx]; decide) rfl rfl,
      (htrips.put (Ledger.not_holds ho (by simp)) (fun x hx => by rw [hnew x hx]; decide)).requeue rfl (fun _ => rfl)
        fun _ he => he⟩
  case settleClaim c o e hclaim ho hslot hhire =>
    have hpaying := claimed hclaim ho
    exact ⟨hlocks.end_claim hclaim (o := some (o.turn .closing)) (by rintro x ⟨⟩; simp [Occupant.turn]) rfl rfl,
      (htrips.settle (o := o.turn .closing) (Ledger.not_holds ho (by simp [hpaying])) rfl hslot hhire).requeue rfl (fun _ => rfl) fun _ he => he⟩
  case settle i o e ho hstate hslot hhire =>
    exact ⟨(hlocks.put (o := some (o.turn .closing)) (by rw [ho]; rintro x ⟨⟩; simp [hstate])
        (by rintro x ⟨⟩; simp [Occupant.turn])).same rfl rfl,
      htrips.settle (Ledger.not_holds ho (by simp [hstate])) rfl hslot hhire⟩
  case storeTrip e q now hqueue =>
    have hclosing := htrips.closing (e := e) (by rw [hqueue]; exact Bag.cons_has_self)
    refine ⟨Ledger.Locks.put (l := l.store now (.trip e) q) hlocks (fun x hx => ?_) nofun, htrips.store_trip now hqueue⟩
    have hx' : l.occupants[e.slot] = some x := hx
    rw [Ledger.holds, hx'] at hclosing
    have : x.state = .closing := by simpa using hclosing
    rw [this]; decide
  case closeShift => exact ⟨hlocks.same rfl rfl, htrips.enqueue_other (fun _ => rfl) rfl rfl⟩
  case append hplain _ _ => exact ⟨hlocks.same rfl rfl, htrips.enqueue_other hplain.2 rfl rfl⟩
  case activate hplain _ _ => exact ⟨hlocks.same rfl rfl, htrips.enqueue_other hplain.2 rfl rfl⟩
  case storeShift hqueue => exact ⟨hlocks.same rfl rfl, htrips.store_other (fun _ => rfl) rfl hqueue⟩
  case storePlain hqueue hplain => exact ⟨hlocks.same rfl rfl, htrips.store_other hplain.2 rfl hqueue⟩
  case powerOff => exact absurd hp' nofun
  case powerOffStored => exact absurd hp' nofun
  case powerOffClosed => exact absurd hp' nofun
  all_goals exact ⟨hlocks.same rfl rfl, htrips.requeue rfl (fun _ => rfl) fun _ he => he⟩

theorem Ledger.Restored.sound {l l' : Ledger} (r : l.Restored l') : l'.Sound := by
  refine fun _ => ⟨⟨fun i x hx hpaying => ?_, fun c hc => by simp [r.claim] at hc⟩, r.trips, r.hires⟩
  have hslot := r.occupants i
  rw [hx] at hslot
  generalize l.occupants[i] = y at hslot
  cases hslot with
  | requeued hclosing _ => rw [hclosing] at hpaying; cases hpaying
  | stopped _ hstopped => rw [hstopped] at hpaying; cases hpaying

theorem Ledger.Step.sound {l l' : Ledger} (st : l.Step l') (h : l.Sound) : l'.Sound := by
  cases st with
  | move hp m => exact m.sound hp h
  | restart r => exact r.sound

/-- Settles O56: each step of the ledger keeps the lock and the entries together. -/
theorem sessionAndQueueCoverTheirSlots : Obligations.SessionAndQueueCoverTheirSlots := by
  intro s t hsession hqueue hstep
  rw [State.sessionLocks_iff] at hsession ⊢
  rw [State.closingQueued_iff] at hqueue ⊢
  have hkeep : ∀ l, s.ledger.Steps l → l.Sound := fun l hl => by
    induction hl with
    | refl => exact fun hp => ⟨hsession hp, hqueue hp⟩
    | tail _ st ih => exact st.sound ih
  have hsound := hkeep t.ledger (step_steps hstep)
  exact ⟨fun hp => (hsound hp).1, fun hp => (hsound hp).2⟩

end Sys2Proof.Machine
end


section
/-! The journal's reserve (R115): a place and a sequence number for every entry stored, queued or still to be queued. -/

namespace Sys2Proof.Machine

/-! ## The reserve on the ledger -/

/-- Whether a slot's TRIP entry is still to be queued (R115, R123). -/
def Ledger.tripToCome (l : Ledger) (i : Fin 4) : Bool :=
  (l.occupants[i]).any (fun o => !(decide (o.state = .closing) &&
    (decide (0 < l.queued (EntryBody.isTripAt i)) || decide (l.newestHire = some o.hire))))

/-- Whether the SHIFT entry is still to be queued (R115, R125). -/
def Ledger.reportToCome (l : Ledger) : Bool :=
  match l.shift with
  | .opened => true
  | .closed => false
  | .closing => !(decide (0 < l.queued EntryBody.isShift) || decide (l.newestNumber.map some = some l.number))

def Ledger.toCome (l : Ledger) : Nat := (List.finRange 4).countP l.tripToCome + l.reportToCome.toNat

def Ledger.ReserveFits (l : Ledger) : Prop :=
  l.stored.length + l.queue.card + l.toCome ≤ 256 ∧ l.nextSeq + l.queue.card + l.toCome ≤ 4294967296

theorem any_eq_decide_countP (l : List EntryBody) (f : EntryBody → Bool) : l.any f = decide (0 < l.countP f) := by
  rw [Bool.eq_iff_iff, List.any_eq_true, decide_eq_true_iff, List.countP_pos_iff]

theorem State.tripToCome_ledger (s : State) (i : Fin 4) : s.ledger.tripToCome i = s.tripToCome i := by
  unfold Ledger.tripToCome State.tripToCome
  rw [State.ledger_occupant, State.ledger_queued, any_eq_decide_countP]
  cases s.party i <;> rfl

theorem State.reportToCome_ledger (s : State) : s.ledger.reportToCome = s.reportToCome := by
  unfold Ledger.reportToCome State.reportToCome
  rw [State.ledger_queued, any_eq_decide_countP, State.newestShift_ledger, Option.map_map]
  rfl

theorem State.toCome_ledger (s : State) : s.ledger.toCome = s.toCome := by
  have hbit : ∀ b : Bool, b.toNat = if b = true then 1 else 0 := by decide
  unfold Ledger.toCome State.toCome
  rw [State.reportToCome_ledger, hbit, funext s.tripToCome_ledger]

theorem State.reserveFits_iff (s : State) : s.ReserveFits ↔ s.ledger.ReserveFits := by
  unfold State.ReserveFits Ledger.ReserveFits
  rw [State.toCome_ledger, show s.ledger.queue.card = s.journal.queued from s.journal.card_bodies]
  rfl

/-! ## The queue's entries by kind -/

/-- Whether an entry is of no hire and no shift. -/
def EntryBody.isPlain : EntryBody → Bool
  | .trip _ => false
  | .shift _ => false
  | _ => true

theorem EntryBody.plain_of_isPlain {b : EntryBody} (h : b.isPlain = true) : b.plain := by
  cases b <;> first | exact ⟨rfl, fun _ => rfl⟩ | cases h

/-- An entry is a TRIP entry of one slot, a SHIFT entry or a plain one. -/
theorem EntryBody.one_kind (b : EntryBody) :
    (if b.isTripAt 0 = true then 1 else 0) + (if b.isTripAt 1 = true then 1 else 0) +
      (if b.isTripAt 2 = true then 1 else 0) + (if b.isTripAt 3 = true then 1 else 0) +
      (if b.isShift = true then 1 else 0) + (if b.isPlain = true then 1 else 0) = 1 := by
  cases b with
  | trip e =>
    obtain h | h | h | h : e.slot = 0 ∨ e.slot = 1 ∨ e.slot = 2 ∨ e.slot = 3 := by omega
    all_goals simp [EntryBody.isTripAt, EntryBody.isShift, EntryBody.isPlain, h]
  | shift | orphan | calibration | tariff => rfl

theorem Ledger.card_queue (l : Ledger) :
    l.queued (EntryBody.isTripAt 0) + l.queued (EntryBody.isTripAt 1) + l.queued (EntryBody.isTripAt 2) +
      l.queued (EntryBody.isTripAt 3) + l.queued EntryBody.isShift + l.queued EntryBody.isPlain = l.queue.card := by
  unfold Ledger.queued
  induction l.queue using Bag.induction with
  | empty => rfl
  | cons b q ih =>
    have := b.one_kind
    simp only [Bag.countP_cons, Bag.card_cons]
    omega

/-- The entries still to come, slot by slot. -/
theorem Ledger.toCome_eq (l : Ledger) : l.toCome = (l.tripToCome 0).toNat + (l.tripToCome 1).toNat +
    (l.tripToCome 2).toNat + (l.tripToCome 3).toNat + l.reportToCome.toNat := by
  rw [Ledger.toCome, countP_slots]

/-- Where what a slot and the shift have yet to queue grows by no more than the entries of their own that leave the queue, the
reserve of a ledger without those entries is covered by the one before. -/
theorem Ledger.toCome_le {l l' m : Ledger} (htrip : ∀ i, (l'.tripToCome i).toNat ≤ (l.tripToCome i).toNat +
      m.queued (EntryBody.isTripAt i))
    (hreport : l'.reportToCome.toNat ≤ l.reportToCome.toNat + m.queued EntryBody.isShift) :
    l'.toCome ≤ l.toCome + m.queue.card := by
  have h := m.card_queue
  have h0 := htrip 0
  have h1 := htrip 1
  have h2 := htrip 2
  have h3 := htrip 3
  rw [l.toCome_eq, l'.toCome_eq]
  omega

/-! ## What a powered part has still to queue -/

/-- The parties that are not CLOSING. -/
def Ledger.unsettled (l : Ledger) : Nat :=
  (List.finRange 4).countP (fun i => (l.occupants[i]).any (fun o => decide (o.state ≠ .closing)))

theorem Ledger.unsettled_le (l : Ledger) : l.unsettled ≤ l.nonVacant :=
  List.countP_mono_left fun i _ h => by
    cases ho : l.occupants[i] with
    | none => simp [ho] at h
    | some o => rfl

/-- On a powered part, whose queue holds every entry of a CLOSING slot and shift, the entries to come are those of the other
parties and of an OPEN shift. -/
theorem Ledger.toCome_powered {l : Ledger} (hp : l.powered = true) (hsound : l.Sound) (hcover : l.ShiftCovers) :
    l.toCome = l.unsettled + l.shiftPlace := by
  obtain ⟨-, htrips, -⟩ := hsound hp
  obtain ⟨-, -, hshift⟩ := hcover
  obtain ⟨hcount, -⟩ := hshift hp
  have htrip : l.tripToCome = fun i => (l.occupants[i]).any (fun o => decide (o.state ≠ .closing)) := by
    funext i
    have hi := htrips i
    unfold Ledger.tripToCome
    cases ho : l.occupants[i] with
    | none => rfl
    | some o =>
      by_cases hc : o.state = .closing
      · rw [if_pos (by simp [Ledger.holds, ho, hc])] at hi
        simp [hc, hi]
      · simp [hc]
  have hreport : l.reportToCome.toNat = l.shiftPlace := by
    unfold Ledger.reportToCome Ledger.shiftPlace
    cases hs : l.shift with
    | opened => rfl
    | closed => rfl
    | closing =>
      rw [hs, if_pos rfl] at hcount
      simp [hcount]
  rw [Ledger.toCome, htrip, hreport, Ledger.unsettled]

/-- The reserve of a powered part. -/
theorem Ledger.reserveFits_powered {l : Ledger} (hp : l.powered = true) (hsound : l.Sound) (hcover : l.ShiftCovers) :
    l.ReserveFits ↔ l.stored.length + l.queue.card + (l.unsettled + l.shiftPlace) ≤ 256 ∧
      l.nextSeq + l.queue.card + (l.unsettled + l.shiftPlace) ≤ 4294967296 := by
  rw [Ledger.ReserveFits, Ledger.toCome_powered hp hsound hcover]

theorem Ledger.put_unsettled (l : Ledger) (i : Fin 4) (o : Option Occupant) :
    (l.put i o).unsettled + ((l.occupants[i]).any (fun o => decide (o.state ≠ .closing))).toNat =
      l.unsettled + (o.any (fun o => decide (o.state ≠ .closing))).toNat := by
  have h := countP_slots_update (f := fun j => ((l.put i o).occupants[j]).any (fun o => decide (o.state ≠ .closing)))
    (g := fun j => (l.occupants[j]).any (fun o => decide (o.state ≠ .closing))) i
    (fun j hj => by rw [Ledger.put_occupant_other o (Ne.symm hj)])
  rwa [Ledger.put_occupant_self] at h

/-- A free count that covers `n` entries more. -/
theorem Ledger.room_of_free {l : Ledger} {n : Nat} (hn : 0 < n) (h : n ≤ l.free) :
    l.stored.length + l.queue.card + n ≤ 256 ∧ l.nextSeq + l.queue.card + n ≤ 4294967296 := by
  unfold Ledger.free at h
  simp only [Config.journalCapacity] at h
  omega

/-! ## Moves of a powered part -/

theorem Ledger.put_stored (l : Ledger) (i : Fin 4) (o : Option Occupant) :
    (l.put i o).stored = l.stored ∧ (l.put i o).nextSeq = l.nextSeq ∧ (l.put i o).shiftPlace = l.shiftPlace := ⟨rfl, rfl, rfl⟩

/-- A move that leaves the part powered keeps the reserve: a hire, an opening and a plain entry find room for theirs, and what
else is queued was to come. -/
theorem Move.reserve_powered {l l' : Ledger} (hp : l.powered = true) (m : Move l l') (hp' : l'.powered = true)
    (hsound : l.Sound) (hcover : l.ShiftCovers)
    (h : l.stored.length + l.queue.card + (l.unsettled + l.shiftPlace) ≤ 256 ∧
      l.nextSeq + l.queue.card + (l.unsettled + l.shiftPlace) ≤ 4294967296) :
    l'.stored.length + l'.queue.card + (l'.unsettled + l'.shiftPlace) ≤ 256 ∧
      l'.nextSeq + l'.queue.card + (l'.unsettled + l'.shiftPlace) ≤ 4294967296 := by
  obtain ⟨hlocks, htrips⟩ := hsound hp
  have hle := l.unsettled_le
  have keep : ∀ {i : Fin 4} {o : Occupant} (o' : Occupant), l.occupants[i] = some o → o.state ≠ .closing →
      o'.state ≠ .closing → (l.put i (some o')).unsettled = l.unsettled := fun {i o} o' ho hs hs' => by
    have := l.put_unsettled i (some o')
    simpa [ho, hs, hs'] using this
  have settled : ∀ {i : Fin 4} {o : Occupant}, l.occupants[i] = some o → o.state ≠ .closing →
      (l.put i (some (o.turn .closing))).unsettled + 1 = l.unsettled := fun {i o} ho hs => by
    have := l.put_unsettled i (some (o.turn .closing))
    simpa [ho, hs, Occupant.turn] using this
  have hcard : ∀ {b : EntryBody} {q : Bag EntryBody}, l.queue = Bag.cons b q → l.queue.card = q.card + 1 := fun hq => by
    rw [hq, Bag.card_cons]
  cases m
  case seats => exact h
  case hire i o hvacant hstate hshift _ hroom =>
    have hput := l.put_unsettled i (some o)
    simp only [hvacant, Option.any_none, Bool.toNat_false, Option.any_some, hstate] at hput
    have hroom' := Ledger.room_of_free (by omega) hroom
    have hplace : l.shiftPlace = 1 := if_pos hshift
    obtain ⟨hs, hn, hsh⟩ := l.put_stored i (some o)
    rw [hs, hn, hsh, Ledger.put_queue]
    simp at hput
    omega
  case turn i o o' ho hfrom _ hto =>
    have hne : ∀ {x : PartyState}, x = .running ∨ x = .stopped → x ≠ .closing := by rintro x (rfl | rfl) <;> decide
    have := keep o' ho (hne hfrom) (hne hto)
    obtain ⟨hs, hn, hsh⟩ := l.put_stored i (some o')
    rw [hs, hn, hsh, Ledger.put_queue, this]
    exact h
  case lock i o payment _ ho hclosing =>
    have := keep { o with state := .paying, payment := some payment } ho hclosing (by simp)
    rw [← this] at h
    exact h
  case release c hclaim =>
    have ho := hlocks.2 c hclaim
    have := keep (Occupant.turn { state := .paying, hire := c.hire, payment := some c.payment } .stopped) ho (by simp)
      (by simp [Occupant.turn])
    rw [← this] at h
    rw [ho]
    exact h
  case settleClaim c o e hclaim ho _ _ =>
    have hpaying := ho.symm.trans (hlocks.2 c hclaim)
    have := settled ho (by rw [Option.some.inj hpaying]; simp)
    show l.stored.length + (Bag.cons _ l.queue).card + ((l.put c.slot (some (o.turn .closing))).unsettled + l.shiftPlace) ≤ _ ∧
      l.nextSeq + (Bag.cons _ l.queue).card + ((l.put c.slot (some (o.turn .closing))).unsettled + l.shiftPlace) ≤ _
    rw [Bag.card_cons]
    omega
  case settle i o e ho hstate _ _ =>
    have := settled ho (by rw [hstate]; decide)
    show l.stored.length + (Bag.cons _ l.queue).card + ((l.put i (some (o.turn .closing))).unsettled + l.shiftPlace) ≤ _ ∧
      l.nextSeq + (Bag.cons _ l.queue).card + ((l.put i (some (o.turn .closing))).unsettled + l.shiftPlace) ≤ _
    rw [Bag.card_cons]
    omega
  case openShift hshift _ hroom =>
    have hvacant := hcover.1 (by rw [hshift]; decide)
    have hroom' := Ledger.room_of_free Nat.one_pos hroom
    show l.stored.length + l.queue.card + (l.unsettled + 1) ≤ _ ∧ l.nextSeq + l.queue.card + (l.unsettled + 1) ≤ _
    omega
  case closeShift r hshift _ _ =>
    have hplace : l.shiftPlace = 1 := if_pos hshift
    show l.stored.length + (Bag.cons _ l.queue).card + (l.unsettled + 0) ≤ _ ∧
      l.nextSeq + (Bag.cons _ l.queue).card + (l.unsettled + 0) ≤ _
    rw [Bag.card_cons]
    omega
  case append b _ _ hroom =>
    have hroom' := Ledger.room_of_free (Nat.succ_pos _) hroom
    show l.stored.length + (Bag.cons b l.queue).card + (l.unsettled + l.shiftPlace) ≤ _ ∧
      l.nextSeq + (Bag.cons b l.queue).card + (l.unsettled + l.shiftPlace) ≤ _
    rw [Bag.card_cons]
    omega
  case activate b _ _ hroom =>
    have hroom' := Ledger.room_of_free (Nat.succ_pos _) hroom
    show l.stored.length + (Bag.cons b l.queue).card + (l.unsettled + l.shiftPlace) ≤ _ ∧
      l.nextSeq + (Bag.cons b l.queue).card + (l.unsettled + l.shiftPlace) ≤ _
    rw [Bag.card_cons]
    omega
  case ack n =>
    have := l.stored.length_filter_le (fun e => decide (n < e.seq))
    show (l.stored.filter _).length + l.queue.card + (l.unsettled + l.shiftPlace) ≤ _ ∧
      l.nextSeq + l.queue.card + (l.unsettled + l.shiftPlace) ≤ _
    omega
  case storeTrip e q now hqueue =>
    have hclosing := htrips.closing (e := e) (by rw [hqueue]; exact Bag.cons_has_self)
    have hput : (l.put e.slot none).unsettled = l.unsettled := by
      have := l.put_unsettled e.slot none
      cases ho : l.occupants[e.slot] with
      | none => simpa [ho] using this
      | some o =>
        have hstate : o.state = .closing := by simpa [Ledger.holds, ho] using hclosing
        simpa [ho, hstate] using this
    have := hcard hqueue
    show (l.stored ++ [_]).length + q.card + ((l.put e.slot none).unsettled + l.shiftPlace) ≤ _ ∧
      l.nextSeq + 1 + q.card + ((l.put e.slot none).unsettled + l.shiftPlace) ≤ _
    rw [List.length_append, List.length_singleton, hput]
    omega
  case storeShift r q now hqueue =>
    have := hcard hqueue
    show (l.stored ++ [_]).length + q.card + (l.unsettled + 0) ≤ _ ∧ l.nextSeq + 1 + q.card + (l.unsettled + 0) ≤ _
    rw [List.length_append, List.length_singleton]
    omega
  case storePlain b q now hqueue _ =>
    have := hcard hqueue
    show (l.stored ++ [_]).length + q.card + (l.unsettled + l.shiftPlace) ≤ _ ∧
      l.nextSeq + 1 + q.card + (l.unsettled + l.shiftPlace) ≤ _
    rw [List.length_append, List.length_singleton]
    omega
  case powerOff => exact absurd hp' nofun
  case powerOffStored => exact absurd hp' nofun
  case powerOffClosed => exact absurd hp' nofun

/-! ## A loss of power -/

theorem newestHire_append (l : Ledger) (e : Entry) :
    ((l.stored ++ [e]).reverse.findSome? (fun x => x.body.trip?)).map (·.hire) =
      match e.body with
      | .trip t => some t.hire
      | _ => l.newestHire := by
  rw [List.reverse_append, List.reverse_singleton, List.singleton_append, List.findSome?_cons]
  cases e.body <;> rfl

theorem newestNumber_append (l : Ledger) (e : Entry) :
    ((l.stored ++ [e]).reverse.findSome? Entry.shift?).map (·.1.number) =
      match e.body with
      | .shift r => some r.number
      | _ => l.newestNumber := by
  rw [List.reverse_append, List.reverse_singleton, List.singleton_append, List.findSome?_cons]
  unfold Entry.shift?
  cases e.body <;> rfl

/-- A slot's entry to come: it was to come before, or it stands in the queue `m`. -/
theorem Ledger.tripToCome_le {l l' m : Ledger} {i : Fin 4} (hoccupant : l'.occupants[i] = l.occupants[i])
    (hlost : ∀ o, l.occupants[i] = some o → o.state = .closing → l'.newestHire ≠ some o.hire →
      0 < m.queued (EntryBody.isTripAt i)) :
    (l'.tripToCome i).toNat ≤ (l.tripToCome i).toNat + m.queued (EntryBody.isTripAt i) := by
  have hbit := Bool.toNat_le (l'.tripToCome i)
  unfold Ledger.tripToCome at *
  rw [hoccupant] at *
  cases ho : l.occupants[i] with
  | none => simp
  | some o =>
    by_cases hc : o.state = .closing
    · by_cases hn : l'.newestHire = some o.hire
      · simp [hc, hn]
      · have := hlost o ho hc hn
        rw [ho] at hbit
        omega
    · simp [hc]

/-- The SHIFT entry to come: it was to come before, or it stands in the queue `m`. -/
theorem Ledger.reportToCome_le {l l' m : Ledger} (hshift : l'.shift = l.shift)
    (hlost : l.shift = .closing → l'.newestNumber.map some ≠ some l'.number → 0 < m.queued EntryBody.isShift) :
    l'.reportToCome.toNat ≤ l.reportToCome.toNat + m.queued EntryBody.isShift := by
  have hbit := Bool.toNat_le l'.reportToCome
  unfold Ledger.reportToCome at *
  rw [hshift] at *
  cases hs : l.shift with
  | opened => simp
  | closed => simp
  | closing =>
    by_cases hn : l'.newestNumber.map some = some l'.number
    · simp [hn]
    · have := hlost hs hn
      rw [hs] at hbit
      dsimp only at hbit ⊢
      omega

/-- A move that leaves the part without power keeps the reserve: what the queue loses is to come again, but for the entry that
its completion has stored. -/
theorem Move.reserve_unpowered {l l' : Ledger} (hp : l.powered = true) (m : Move l l') (hp' : l'.powered = false)
    (hsound : l.Sound) (hcover : l.ShiftCovers) (h : l.ReserveFits) : l'.ReserveFits := by
  obtain ⟨-, htrips⟩ := hsound hp
  obtain ⟨hcount, hnumbers⟩ := hcover.2.2 hp
  obtain ⟨hplaces, hsequence⟩ := h
  have queued : ∀ {i : Fin 4} {o : Occupant}, l.occupants[i] = some o → o.state = .closing →
      l.queued (EntryBody.isTripAt i) = 1 := fun ho hc => by
    rw [htrips.1, if_pos (by simp [Ledger.holds, ho, hc])]
  have drop : ∀ {b : EntryBody} {q : Bag EntryBody} (f : EntryBody → Bool) (now : Stamp), l.queue = Bag.cons b q →
      f b = false → (l.store now b q).queued f = l.queued f := fun f now hqueue hf => by
    rw [Ledger.queued, Ledger.queued, hqueue, Bag.countP_cons_of_neg _ hf]; rfl
  have trips : ∀ {b : EntryBody} {q : Bag EntryBody} (now : Stamp) {m : Ledger}, l.queue = Bag.cons b q →
      m.occupants = l.occupants → m.newestHire = (match b with | .trip t => some t.hire | _ => l.newestHire) →
      ∀ i, (m.tripToCome i).toNat ≤ (l.tripToCome i).toNat + (l.store now b q).queued (EntryBody.isTripAt i) :=
      fun {b q} now {m} hqueue hoccupants hnewest i => by
    refine Ledger.tripToCome_le (by rw [hoccupants]) fun o ho hc hn => ?_
    have hother : b.isTripAt i = false := by
      cases b with
      | trip e =>
        rw [EntryBody.isTripAt_trip, decide_eq_false_iff_not]
        rintro rfl
        have hhire := htrips.2 e (by rw [hqueue]; exact Bag.cons_has_self)
        rw [ho] at hhire
        exact hn (hnewest.trans hhire.symm)
      | shift | orphan | calibration | tariff => rfl
    rw [drop _ now hqueue hother, queued ho hc]
    exact Nat.one_pos
  cases m
  case powerOff a =>
    have hle : (l.powerOff a).toCome ≤ l.toCome + l.queue.card :=
      Ledger.toCome_le (fun i => Ledger.tripToCome_le rfl fun o ho hc _ => by rw [queued ho hc]; exact Nat.one_pos)
        (Ledger.reportToCome_le rfl fun hs _ => by rw [hcount, if_pos hs]; exact Nat.one_pos)
    constructor
    · show l.stored.length + 0 + _ ≤ _
      omega
    · show l.nextSeq + 0 + _ ≤ _
      omega
  case powerOffStored b q now a hqueue =>
    have hle : ((l.store now b q).powerOff a).toCome ≤ l.toCome + q.card := by
      refine Ledger.toCome_le (m := l.store now b q) (trips now hqueue rfl ?_) (Ledger.reportToCome_le rfl fun hs hn => ?_)
      · refine (newestHire_append l (storedEntry l.nextSeq now b)).trans ?_
        cases b <;> rfl
      · have hnewest : ((l.store now b q).powerOff a).newestNumber = _ :=
          newestNumber_append l (storedEntry l.nextSeq now b)
        have hother : b.isShift = false := by
          cases b with
          | shift r =>
            have hnumber := hnumbers r (by rw [hqueue]; exact Bag.cons_has_self)
            exact absurd (by rw [hnewest]; exact congrArg some hnumber.symm) hn
          | trip | orphan | calibration | tariff => rfl
        rw [drop _ now hqueue hother, hcount, if_pos hs]
        exact Nat.one_pos
    have hcard : l.queue.card = q.card + 1 := by rw [hqueue, Bag.card_cons]
    constructor
    · show (l.stored ++ [_]).length + 0 + _ ≤ _
      rw [List.length_append, List.length_singleton]
      omega
    · show l.nextSeq + 1 + 0 + _ ≤ _
      omega
  case powerOffClosed r q now a hqueue =>
    have hle : ((l.store now (.shift r) q).closeShift.powerOff a).toCome ≤ l.toCome + q.card :=
      Ledger.toCome_le (m := l.store now (.shift r) q)
        (trips now hqueue rfl (newestHire_append l (storedEntry l.nextSeq now (.shift r)))) (Nat.zero_le _)
    have hcard : l.queue.card = q.card + 1 := by rw [hqueue, Bag.card_cons]
    constructor
    · show (l.stored ++ [_]).length + 0 + _ ≤ _
      rw [List.length_append, List.length_singleton]
      omega
    · show l.nextSeq + 1 + 0 + _ ≤ _
      omega
  all_goals exact absurd (hp.symm.trans hp') nofun

/-! ## A restart -/

/-- A slot that the restore leaves taken had its entry to come, or in the queue. -/
theorem Ledger.Restored.slot_le {l l' : Ledger} (r : l.Restored l') (i : Fin 4) :
    (l'.occupants[i]).isSome.toNat ≤ (l.tripToCome i).toNat + l.queued (EntryBody.isTripAt i) := by
  have hslot := r.occupants i
  have hcome : l.tripToCome i = (l.occupants[i]).any (fun o => !(decide (o.state = .closing) &&
    (decide (0 < l.queued (EntryBody.isTripAt i)) || decide (l.newestHire = some o.hire)))) := rfl
  rw [hcome]
  generalize l.occupants[i] = x at hslot
  generalize l'.occupants[i] = y at hslot
  cases hslot with
  | vacant => simp
  | cleared => simp
  | stopped h _ => simp [h]
  | requeued _ hnewest =>
    by_cases hq : 0 < l.queued (EntryBody.isTripAt i)
    · exact Nat.lt_of_lt_of_le hq (Nat.le_add_left _ _)
    · simp [hnewest, hq]

/-- A shift that the restore leaves not CLOSED had its entry to come, or in the queue. -/
theorem Ledger.Restored.shift_le {l l' : Ledger} (r : l.Restored l') :
    (if l'.shift = .closed then 0 else 1) ≤ l.reportToCome.toNat + l.queued EntryBody.isShift := by
  unfold Ledger.reportToCome
  cases r.shift with
  | kept h hshift _ =>
    rw [hshift]
    cases hs : l.shift with
    | opened => simp
    | closed => simp
    | closing => exact absurd hs h
  | closed _ hshift => simp [hshift]
  | requeued h hnewest hshift _ =>
    rw [h, hshift]
    have hother : l.newestNumber.map some ≠ some l.number := by
      obtain hnone | hne := hnewest
      · simp [hnone]
      · intro heq
        cases hn : l.newestNumber with
        | none => simp [hn] at heq
        | some n => exact hne (by rw [hn] at heq ⊢; exact Option.some.inj heq)
    by_cases hq : 0 < l.queued EntryBody.isShift
    · exact Nat.le_trans (Nat.succ_le_of_lt hq) (Nat.le_add_left _ _)
    · simp [hother, hq]

/-- The queue of a restarted part holds the entries of its CLOSING slots and its CLOSING shift. -/
theorem Ledger.Restored.load {l l' : Ledger} (r : l.Restored l') :
    l'.queue.card + (l'.unsettled + l'.shiftPlace) = l'.nonVacant + (if l'.shift = .closed then 0 else 1) := by
  have hplain : l'.queued EntryBody.isPlain = 0 :=
    Bag.countP_eq_zero.mpr fun b hb h => r.plain b hb (EntryBody.plain_of_isPlain h)
  have hslot : ∀ i : Fin 4, l'.queued (EntryBody.isTripAt i) +
      ((l'.occupants[i]).any (fun o => decide (o.state ≠ .closing))).toNat = (l'.occupants[i]).isSome.toNat := fun i => by
    rw [Ledger.queued, r.trips i, Ledger.holds]
    cases l'.occupants[i] with
    | none => rfl
    | some o => by_cases h : o.state = .closing <;> simp [h]
  have hshift : l'.queued EntryBody.isShift + l'.shiftPlace = if l'.shift = .closed then 0 else 1 := by
    rw [Ledger.queued, r.reports, Ledger.shiftPlace]
    cases l'.shift <;> rfl
  have hcard := l'.card_queue
  have h0 := hslot 0
  have h1 := hslot 1
  have h2 := hslot 2
  have h3 := hslot 3
  rw [Ledger.unsettled, Ledger.nonVacant, countP_slots, countP_slots]
  omega

theorem Ledger.Restored.reserveFits {l l' : Ledger} (r : l.Restored l') (hcover : l'.ShiftCovers) (h : l.ReserveFits) :
    l'.ReserveFits := by
  have hload := r.load
  have hshift := r.shift_le
  have hcard := l.card_queue
  have hcome := l.toCome_eq
  have h0 := r.slot_le 0
  have h1 := r.slot_le 1
  have h2 := r.slot_le 2
  have h3 := r.slot_le 3
  obtain ⟨hplaces, hsequence⟩ := h
  rw [Ledger.nonVacant, countP_slots] at hload
  rw [Ledger.reserveFits_powered r.powered r.sound hcover, r.stored, r.nextSeq]
  omega

/-! ## Every step -/

theorem Ledger.Step.reserveFits {l l' : Ledger} (st : l.Step l') (hsound : l.Sound) (hcover : l.ShiftCovers)
    (h : l.ReserveFits) : l'.ReserveFits := by
  have hcover' := st.shiftCovers hcover
  have hsound' := st.sound hsound
  cases st with
  | restart r => exact r.reserveFits hcover' h
  | move hp m =>
    cases hp' : l'.powered with
    | false => exact m.reserve_unpowered hp hp' hsound hcover h
    | true =>
      rw [Ledger.reserveFits_powered hp' hsound' hcover']
      exact m.reserve_powered hp hp' hsound hcover ((Ledger.reserveFits_powered hp hsound hcover).mp h)

/-- Settles O60: the reserve goes with the lock, the entries of the CLOSING slots and the shift's cover, which every step of the
ledger keeps with it. -/
theorem reserveIsKept : Obligations.ReserveIsKept := by
  intro s t hsession hqueue hshift hreserve hstep
  rw [State.sessionLocks_iff] at hsession
  rw [State.closingQueued_iff] at hqueue
  rw [State.shiftCoversHires_iff] at hshift
  rw [State.reserveFits_iff] at hreserve ⊢
  have hkeep : ∀ l, s.ledger.Steps l → l.Sound ∧ l.ShiftCovers ∧ l.ReserveFits := fun l hl => by
    induction hl with
    | refl => exact ⟨fun hp => ⟨hsession hp, hqueue hp⟩, hshift, hreserve⟩
    | tail _ st ih =>
      obtain ⟨hsound, hcover, hfits⟩ := ih
      exact ⟨st.sound hsound, st.shiftCovers hcover, st.reserveFits hsound hcover hfits⟩
  exact (hkeep t.ledger (step_steps hstep)).2.2

end Sys2Proof.Machine
end


section
/-! The journal's numbering (R109) and the tariff sets that passed the commit's checks (R25, R26). -/

namespace Sys2Proof.Machine

/-! ## The numbering -/

/-- The stored entries carry consecutive numbers up to the last number given (R109). -/
def Ledger.Gapless (l : Ledger) : Prop :=
  l.stored.length < l.nextSeq ∧ l.stored.map (·.seq) = List.range' (l.nextSeq - l.stored.length) l.stored.length

/-- The entries above a number, of consecutively numbered ones, are the last ones. -/
theorem map_seq_filter (n : Nat) (entries : List Entry) (a : Nat) (h : entries.map (·.seq) = List.range' a entries.length) :
    (entries.filter (fun e => n < e.seq)).map (·.seq) =
      List.range' (a + entries.length - (entries.filter (fun e => n < e.seq)).length)
        (entries.filter (fun e => n < e.seq)).length := by
  induction entries generalizing a with
  | nil => rfl
  | cons e rest ih =>
    obtain ⟨rfl, hrest⟩ : e.seq = a ∧ rest.map (·.seq) = List.range' (a + 1) rest.length := by
      simpa [List.range'_succ] using h
    by_cases hn : n < e.seq
    · have hall : ∀ x ∈ e :: rest, decide (n < x.seq) = true := fun x hx => by
        have hseq : x.seq ∈ List.range' e.seq (e :: rest).length := h ▸ List.mem_map_of_mem hx
        have := (List.mem_range'_1.mp hseq).1
        exact decide_eq_true (by omega)
      rw [List.filter_eq_self.mpr hall, Nat.add_sub_cancel]
      exact h
    · rw [List.filter_cons_of_neg (by simpa using hn), ih (e.seq + 1) hrest]
      congr 1
      simp only [List.length_cons]
      omega

theorem Ledger.Gapless.store {l : Ledger} (h : l.Gapless) (now : Stamp) (b : EntryBody) (q : Bag EntryBody) :
    (l.store now b q).Gapless := by
  obtain ⟨hlt, hseq⟩ := h
  unfold Ledger.Gapless Ledger.store
  simp only [List.length_append, List.length_singleton, List.map_append, List.map_singleton, storedEntry_seq, hseq]
  refine ⟨by omega, ?_⟩
  rw [List.range'_concat, Nat.add_sub_add_right, Nat.one_mul, Nat.sub_add_cancel (Nat.le_of_lt hlt)]

theorem Move.gapless {l l' : Ledger} (m : Move l l') (h : l.Gapless) : l'.Gapless := by
  cases m
  case ack n =>
    obtain ⟨hlt, hseq⟩ := h
    refine ⟨Nat.lt_of_le_of_lt (l.stored.length_filter_le _) hlt, ?_⟩
    have := map_seq_filter n l.stored _ hseq
    rwa [Nat.sub_add_cancel (Nat.le_of_lt hlt)] at this
  case storeTrip e q now _ => exact h.store now (.trip e) q
  case storeShift r q now _ => exact h.store now (.shift r) q
  case storePlain b q now _ _ => exact h.store now b q
  case powerOffStored b q now _ _ => exact h.store now b q
  case powerOffClosed r q now _ _ => exact h.store now (.shift r) q
  all_goals exact h

theorem Ledger.Step.gapless {l l' : Ledger} (st : l.Step l') (h : l.Gapless) : l'.Gapless := by
  cases st with
  | move _ m => exact m.gapless h
  | restart r => unfold Ledger.Gapless; rw [r.stored, r.nextSeq]; exact h

/-! ## The queued TARIFF entry -/

/-- A TARIFF entry is queued only while the stage is ACTIVATING, one at most (R26). -/
def Ledger.TariffQueued (l : Ledger) : Prop := l.queued EntryBody.isTariff ≤ l.activating.toNat

theorem Move.tariffQueued {l l' : Ledger} (m : Move l l') (h : l.TariffQueued) : l'.TariffQueued := by
  unfold Ledger.TariffQueued at *
  have stored : ∀ {b : EntryBody} {q : Bag EntryBody}, l.queue = Bag.cons b q → b.isTariff = false →
      q.countP EntryBody.isTariff ≤ l.activating.toNat := fun hqueue hb => by
    rwa [Ledger.queued, hqueue, Bag.countP_cons_of_neg _ hb] at h
  cases m
  case settleClaim => exact Nat.le_trans (Nat.le_of_eq (Bag.countP_cons_of_neg _ rfl)) h
  case settle => exact Nat.le_trans (Nat.le_of_eq (Bag.countP_cons_of_neg _ rfl)) h
  case closeShift => exact Nat.le_trans (Nat.le_of_eq (Bag.countP_cons_of_neg _ rfl)) h
  case append hb _ => exact Nat.le_trans (Nat.le_of_eq (Bag.countP_cons_of_neg _ hb)) h
  case activate b _ hidle _ =>
    rw [hidle] at h
    show (Bag.cons b l.queue).countP _ ≤ 1
    rw [Bag.countP_cons]
    split
    · exact Nat.succ_le_succ h
    · exact Nat.le_succ_of_le h
  case storeTrip hqueue => exact stored hqueue rfl
  case storeShift hqueue => exact stored hqueue rfl
  case storePlain b q now hqueue _ =>
    show q.countP EntryBody.isTariff ≤ (l.activating && !b.isTariff).toNat
    cases hb : b.isTariff with
    | false => rw [Bool.not_false, Bool.and_true]; exact stored hqueue hb
    | true =>
      rw [Ledger.queued, hqueue, Bag.countP_cons_of_pos _ hb] at h
      have := Bool.toNat_le l.activating
      omega
  case powerOff => exact Nat.zero_le _
  case powerOffStored => exact Nat.zero_le _
  case powerOffClosed => exact Nat.zero_le _
  all_goals exact h

theorem EntryBody.plain_of_isTariff {b : EntryBody} (h : b.isTariff = true) : b.plain := by
  cases b <;> first | exact ⟨rfl, fun _ => rfl⟩ | cases h

theorem Ledger.Step.tariffQueued {l l' : Ledger} (st : l.Step l') (h : l.TariffQueued) : l'.TariffQueued := by
  cases st with
  | move _ m => exact m.tariffQueued h
  | restart r =>
    have hnone : l'.queued EntryBody.isTariff = 0 :=
      Bag.countP_eq_zero.mpr fun b hb hb' => r.plain b hb (EntryBody.plain_of_isTariff hb')
    exact Nat.le_trans (Nat.le_of_eq hnone) (Nat.zero_le _)

/-! ## The committed sets -/

/-- The active set passes the commit's checks, and so does a committed staged set; an IDLE stage is empty (R22, R25). -/
def TariffStore.Complete (t : TariffStore) : Prop :=
  t.active.commitFailure = none ∧ (t.stage.version.isSome = true → t.staged.commitFailure = none) ∧
  (t.stage = .idle → t.staged = TariffSet.empty)

theorem TariffStore.Complete.same {t u : TariffStore} (h : t.Complete) (hactive : u.active = t.active)
    (hstaged : u.staged = t.staged) (hstage : u.stage = t.stage) : u.Complete := by
  unfold TariffStore.Complete
  rw [hactive, hstaged, hstage]
  exact h

theorem complete_readsOnly : ReadsOnly [.store] (fun s => s.store.Complete) := fun s t h hs => by
  have hstore : t.store = s.store := h .store (by simp)
  exact hs.same (congrArg _ hstore) (congrArg _ hstore) (congrArg _ hstore)

theorem tariffBegin_complete {s : State} (h : s.store.Complete) : (tariffBegin s).state.store.Complete := by
  unfold tariffBegin
  split
  · exact h
  · exact ⟨h.1, nofun, nofun⟩

theorem tariffItem_complete (kind number form : Byte) (fields : BitVec 176) {s : State} (h : s.store.Complete) :
    (tariffItem kind number form fields s).state.store.Complete := by
  unfold tariffItem
  split
  · exact h
  · split
    · exact h
    · split
      · exact h
      · next hloading =>
        have hstage : s.store.stage = .loading := Classical.not_not.mp hloading
        split
        · exact h
        · exact ⟨h.1, fun hv => by simp [hstage, Stage.version] at hv, fun hi => by simp [hstage] at hi⟩

theorem tariffCommit_complete (version : BitVec 16) {s : State} (h : s.store.Complete) :
    (tariffCommit version s).state.store.Complete := by
  unfold tariffCommit
  split
  · exact h
  · split
    · exact h
    · next hok => exact ⟨h.1, fun _ => hok, nofun⟩

theorem tryActivate_complete {s : State} (h : s.store.Complete) : s.tryActivate.store.Complete := by
  obtain he | ⟨v, hstage, -, he⟩ := s.tryActivate_cases <;> rw [he]
  · exact h
  · exact ⟨h.1, fun _ => h.2.1 (by rw [hstage]; rfl), nofun⟩

theorem windowClose_complete (sense : LampSense) {s : State} (h : s.store.Complete) :
    (windowClose sense s).store.Complete := by
  obtain ⟨-, -, -, -, -, -, -, hstore, -⟩ := windowClose_parts s sense
  rw [hstore]
  exact tryActivate_complete (s := s.closed sense) h

/-- The completion of an activation puts a set in force that the commit has checked (R27). -/
theorem TariffStore.Complete.activate {t : TariffStore} (h : t.Complete) (hstage : t.stage.isActivating = true)
    (version : BitVec 16) : (t.activate version).Complete := by
  have hversion : t.stage.version.isSome = true := by
    cases hs : t.stage <;> simp_all [Stage.isActivating, Stage.version]
  exact ⟨h.2.1 hversion, nofun, fun _ => rfl⟩

/-- A TARIFF entry in flight is an ACTIVATING stage's. -/
theorem activating_of_flying {s : State} {old new : BitVec 16} (h : s.ledger.TariffQueued)
    (hflying : s.journal.flying = some (.tariff old new)) : s.store.stage.isActivating = true := by
  obtain ⟨q, hqueue, -⟩ := State.complete_ledger hflying
  unfold Ledger.TariffQueued Ledger.queued at h
  rw [hqueue, Bag.countP_cons_of_pos _ rfl] at h
  have hone : 1 ≤ s.store.stage.isActivating.toNat := Nat.le_trans (Nat.le_add_left _ _) h
  cases hs : s.store.stage.isActivating with
  | true => rfl
  | false => rw [hs] at hone; exact absurd hone (by decide)

theorem afterStored_complete {s : State} {e : Entry} (h : s.store.Complete)
    (htariff : ∀ old new, e.body = .tariff old new → s.store.stage.isActivating = true) :
    (s.afterStored e).store.Complete := by
  unfold State.afterStored
  split
  · rw [State.updateSign_store]; exact h
  · rw [State.raise_store, State.updateSign_store]; exact h
  · exact h
  · exact h
  · next old new hb => rw [State.raise_store]; exact h.activate (htariff _ _ hb) new

/-- The store's sets at a completion, of which only a TARIFF entry's changes them. -/
theorem storeHead_complete {s t : State} {e : Entry} (hs : s.store.Complete) (hq : s.ledger.TariffQueued)
    (h : s.storeHead = some (e, t)) : t.store.Complete ∧ (t.afterStored e).store.Complete := by
  obtain ⟨b, hflying, rfl, rfl⟩ := State.storeHead_eq h
  refine ⟨hs, afterStored_complete hs fun old new hb => ?_⟩
  have hbody : b = .tariff old new := by cases b <;> simp_all [storedEntry]
  exact activating_of_flying (s := s) hq (hbody ▸ hflying)

theorem appendComplete_complete {s : State} (hs : s.store.Complete) (hq : s.ledger.TariffQueued) :
    (appendComplete s).store.Complete := by
  unfold appendComplete
  split
  · exact hs
  · next h => exact (storeHead_complete hs hq h).2

theorem cutAt_complete (cut : PowerCut) {s : State} (hs : s.store.Complete) (hq : s.ledger.TariffQueued) :
    (s.cutAt cut).store.Complete := by
  have first : ∀ {e : Entry} {t : State}, s.storeHead = some (e, t) → (t.firstUpdate e).store.Complete := fun h => by
    obtain ⟨hstored, hafter⟩ := storeHead_complete hs hq h
    unfold State.firstUpdate
    split
    · exact hafter
    · exact hafter
    · exact hstored
  cases cut with
  | betweenSteps => exact hs
  | afterFirstUpdate =>
    unfold State.cutAt
    dsimp only
    split
    · exact hs
    · next h => exact first h
  | afterSecondUpdate =>
    unfold State.cutAt
    dsimp only
    split
    · exact hs
    · next e t h =>
      unfold State.secondUpdate
      split
      · exact (storeHead_complete hs hq h).1
      · exact (storeHead_complete hs hq h).1
      · exact first h

theorem Stage.rearm_version (st : Stage) : st.rearm.version = st.version ∧ (st.rearm = .idle ↔ st = .idle) := by
  cases st <;> simp [Stage.rearm, Stage.version]

theorem TariffStore.advance_sets (t : TariffStore) (n : Nat) :
    (t.advance n).active = t.active ∧ (t.advance n).staged = t.staged ∧ (t.advance n).stage = t.stage := by
  unfold TariffStore.advance
  split <;> exact ⟨rfl, rfl, rfl⟩

theorem TariffStore.recoverClock_sets (t : TariffStore) (phase : Nat) (backup : Backup) :
    (t.recoverClock phase backup).active = t.active ∧ (t.recoverClock phase backup).staged = t.staged := by
  cases backup with
  | held n => exact ⟨(t.advance_sets _).1, (t.advance_sets _).2.1⟩
  | failed _ => exact ⟨rfl, rfl⟩

/-- The restore leaves the tariff store as it is. -/
theorem State.restore_store (s : State) : s.restore.store = s.store := by
  have slot : ∀ (u : State) (i : Fin 4), (u.restoreSlot i).store = u.store := fun u i =>
    u.restoreSlot_frame i .store (by decide)
  have shift : ∀ u : State, u.restoreShift.store = u.store := fun u => by
    obtain ⟨-, h⟩ | ⟨_, _, -, -, -, h⟩ | ⟨-, -, _, h⟩ := u.restoreShift_cases <;> rw [h]
    rfl
  unfold State.restore State.countInterruption
  rw [State.raise_store]
  exact (shift _).trans ((slot _ 3).trans ((slot _ 2).trans ((slot _ 1).trans (slot s 0))))

theorem State.firstSign_store (s : State) : s.firstSign.store = s.store := rfl

theorem State.wake_store (s : State) (levels : InputLevels) (backup : Backup) : (s.wake levels backup).store =
    { s.dropVolatile.store.recoverClock s.dropVolatile.secondMs backup with stage := s.dropVolatile.store.stage.rearm } := rfl

theorem State.dropVolatile_store (s : State) : s.dropVolatile.store.active = s.store.active ∧
    s.dropVolatile.store.staged = s.store.staged ∧ s.dropVolatile.store.stage = s.store.stage := ⟨rfl, rfl, rfl⟩

theorem restart_complete (levels : InputLevels) (backup : Backup) {s : State} (h : s.store.Complete) :
    (restart levels backup s).store.Complete := by
  obtain ⟨hactive, hstaged⟩ := s.dropVolatile.store.recoverClock_sets s.dropVolatile.secondMs backup
  obtain ⟨hactive', hstaged', hstage'⟩ := s.dropVolatile_store
  obtain ⟨hversion, hidle⟩ := s.store.stage.rearm_version
  obtain ⟨hcommitted, hcomplete, hempty⟩ := h
  rw [restart, State.firstSign_store, State.restore_store, State.wake_store]
  unfold TariffStore.Complete
  dsimp only
  rw [hactive, hstaged, hactive', hstaged', hstage', hversion, hidle]
  exact ⟨hcommitted, hcomplete, hempty⟩

/-- Every command keeps the sets complete, while the queue's TARIFF entry is an ACTIVATING stage's. -/
theorem exec_complete {c : Instr} {s t : State} (h : exec c s = .next t) (hs : s.store.Complete)
    (hq : s.ledger.TariffQueued) : t.store.Complete := by
  have kept : ∀ {u : State}, u.store.active = s.store.active → u.store.staged = s.store.staged →
      u.store.stage = s.store.stage → u.store.Complete := hs.same
  have req := @ReadsOnly.request _ _ complete_readsOnly (by decide)
  have frame := @ReadsOnly.exec _ _ complete_readsOnly c s t h
  cases c
  case tariffBegin => exact req h (fun _ => tariffBegin_complete hs) hs
  case tariffItem => exact req h (fun _ => tariffItem_complete _ _ _ _ hs) hs
  case tariffCommit => exact req h (fun _ => tariffCommit_complete _ hs) hs
  case setClock => exact req h (fun _ => kept rfl rfl rfl) hs
  case setHoliday => exact req h (fun _ => by unfold setHoliday; split <;> exact hs) hs
  case zoneReport => exact req h (fun _ => by unfold zoneReport; split <;> simp only [refuse, State.raiseIf_store] <;> exact hs) hs
  case setZoneWatch => exact req h (fun _ => by unfold setZoneWatch; split <;> exact hs) hs
  case windowClose => exact event_keeps (P := fun u => u.store.Complete) h hs fun _ _ =>
    windowClose_complete _ hs
  case clockSecond =>
    obtain ⟨hactive, hstaged, hstage⟩ := s.store.advance_sets 1
    exact event_keeps (P := fun u => u.store.Complete) h hs fun _ _ => kept hactive hstaged hstage
  case zoneWatchExpiry =>
    exact event_keeps (P := fun u => u.store.Complete) h hs fun _ _ => by
      unfold zoneWatchExpiry
      split
      · rw [State.raiseIf_store]; exact hs
      · exact hs
  case appendComplete =>
    exact event_keeps (P := fun u => u.store.Complete) h hs fun _ _ => appendComplete_complete hs hq
  case powerLoss cut =>
    exact event_keeps (P := fun u => u.store.Complete) h hs fun _ _ =>
      (cutAt_complete cut hs hq).same rfl rfl rfl
  case restart levels backup =>
    obtain rfl : restart levels backup s = t := by simpa [exec, execRestart] using h
    exact restart_complete levels backup hs
  all_goals exact frame (by simp [touches]) hs

/-! ## Every step -/

theorem State.committedSets_iff (s : State) :
    s.CommittedSetsAreComplete ↔ s.store.Complete ∧ s.ledger.TariffQueued := by
  have hbit : ∀ b : Bool, b.toNat = if b = true then 1 else 0 := by decide
  unfold State.CommittedSetsAreComplete TariffStore.Complete Ledger.TariffQueued
  rw [State.ledger_queued, hbit]
  simp only [and_assoc]
  rfl

/-- Settles O59: the numbering by the ledger's steps, the sets by the commands', with the queued TARIFF entry from the
ledger. -/
theorem journalAndSetsStaySound : Obligations.JournalAndSetsStaySound := by
  intro s t hgapless hsets hstep
  rw [State.committedSets_iff] at hsets ⊢
  have hseq : ∀ l, s.ledger.Steps l → l.Gapless := fun l hl => by
    induction hl with
    | refl => exact hgapless
    | tail _ st ih => exact st.gapless ih
  have htariff : ∀ {l l' : Ledger}, l.Steps l' → l.TariffQueued → l'.TariffQueued := fun hl h => by
    induction hl with
    | refl => exact h
    | tail _ st ih => exact st.tariffQueued ih
  refine ⟨hseq t.ledger (step_steps hstep), ?_⟩
  exact step_keeps (P := fun u => u.store.Complete ∧ u.ledger.TariffQueued)
    (fun c u v hu hc => ⟨exec_complete hc hu.1 hu.2, htariff (exec_steps hc) hu.2⟩) (fun _ _ hu => hu)
    (fun u _ hu => ⟨hu.1, u.advance_ledger ▸ hu.2⟩) hstep hsets

end Sys2Proof.Machine
end


section
/-! Each party's money (R18, R52, R57, R84): what every rule does to a record's fare, extras and tenders. -/

namespace Sys2Proof.Machine

/-! ## The tariffs -/

theorem TariffSet.empty_inRange : TariffSet.empty.InRange := by
  intro i r h
  have hnone : TariffSet.empty.tariffs[i] = none := by simp [TariffSet.empty]
  cases hnone.symm.trans h

/-- The flag fall of a tariff of a set, which a record cannot lack, is within its range (R18). -/
theorem TariffSet.InRange.flagFall {t : TariffSet} (h : t.InRange) (n : TariffNo) : (t.record n).flagFall ≤ 99999 := by
  unfold TariffSet.record
  split
  · next r hr => exact (h n r hr).1
  · cases hzero : t.tariffs[(0 : TariffNo)] with
    | none => exact Nat.zero_le _
    | some r => exact (h 0 r hzero).1

/-- A field of one byte holds at most 255. -/
theorem itemField_lt (f : BitVec 176) (offset n : Nat) : itemField f offset n < 2 ^ (8 * n) := BitVec.isLt _

theorem tariffOf_inRange {f : BitVec 176} {t : Tariff} (h : tariffOf f = some t) : t.InRange := by
  have hprepaid : itemField f 4 1 < 2 ^ (8 * 1) := itemField_lt f 4 1
  unfold tariffOf at h
  dsimp only at h
  split at h
  · next hok =>
    cases h
    unfold Tariff.InRange
    dsimp only
    omega
  · cases h

theorem TariffSet.InRange.set {t : TariffSet} (h : t.InRange) {i : TariffNo} {x : Option Tariff}
    (hx : ∀ r, x = some r → r.InRange) : ({ t with tariffs := t.tariffs.set i x } : TariffSet).InRange := by
  intro j r hr
  simp only [Fin.getElem_fin, Vector.getElem_set] at hr
  split at hr
  · exact hx r hr
  · exact h j r hr

/-- An item written into a set keeps its tariffs within their ranges (R24). -/
theorem TariffSet.InRange.write {t u : TariffSet} (h : t.InRange) {kind : ItemKind} {number form : Byte} {fields : BitVec 176}
    (hw : t.write kind number form fields = some u) : u.InRange := by
  cases kind with
  | tariff =>
    unfold TariffSet.write at hw
    dsimp only at hw
    split at hw
    · cases hw
    · split at hw
      · cases hw
        exact h.set nofun
      · obtain ⟨r, hr, rfl⟩ := Option.map_eq_some_iff.mp hw
        exact h.set fun _ he => by cases he; exact tariffOf_inRange hr
  | extraKind =>
    unfold TariffSet.write at hw
    dsimp only at hw
    split at hw
    · cases hw
    · split at hw
      · cases hw; exact h
      · obtain ⟨r, -, rfl⟩ := Option.map_eq_some_iff.mp hw; exact h
  | zoneRule =>
    unfold TariffSet.write at hw
    dsimp only at hw
    split at hw
    · cases hw
    · split at hw
      · cases hw; exact h
      · obtain ⟨r, -, rfl⟩ := Option.map_eq_some_iff.mp hw; exact h
  | defaults =>
    unfold TariffSet.write defaultsOf at hw
    dsimp only at hw
    split at hw
    · split at hw
      · cases hw; exact h
      · cases hw
    · cases hw

/-! ## A party's record -/

/-- A record whose amount due has not sunk, its other money unchanged. -/
theorem Party.MoneyFits.raised {p q : Party} (h : p.MoneyFits) (hfare : q.fare ≤ moneyMax) (hdue : p.due ≤ q.due)
    (htenders : q.tenders = p.tenders) (hextras : q.extras.length ≤ 8) : q.MoneyFits := by
  obtain ⟨-, htotal, hplaces, -⟩ := h
  exact ⟨hfare, htenders ▸ Nat.le_trans htotal hdue, htenders ▸ hplaces, hextras⟩

/-- A record with the same money. -/
theorem Party.MoneyFits.same {p q : Party} (h : p.MoneyFits) (hfare : q.fare = p.fare) (hextras : q.extras = p.extras)
    (htip : q.tip = p.tip) (htenders : q.tenders = p.tenders) : q.MoneyFits := by
  unfold Party.MoneyFits Party.due
  rw [hfare, hextras, htip, htenders]
  exact h

theorem newParty_moneyFits {store : TariffStore} (h : store.active.InRange) (hire : Nat) (pin : Option TariffNo) :
    (newParty store hire pin).MoneyFits :=
  ⟨Nat.le_trans (h.flagFall _) (by decide), Nat.zero_le _, Nat.zero_le _, Nat.zero_le _⟩

theorem extrasTotal_append (l : List Extra) (e : Extra) : extrasTotal (l ++ [e]) = extrasTotal l + e.amount := by
  simp [extrasTotal]

/-- An extra in a free place (R52, R71). -/
theorem Party.MoneyFits.extra {p q : Party} (h : p.MoneyFits) (e : Extra) (hplace : p.extras.length < Config.extrasPlaces)
    (hfare : q.fare = p.fare) (hextras : q.extras = p.extras ++ [e]) (htip : q.tip = p.tip) (htenders : q.tenders = p.tenders) :
    q.MoneyFits := by
  refine h.raised (hfare ▸ h.1) ?_ htenders ?_
  · unfold Party.due
    rw [hfare, hextras, htip, extrasTotal_append]
    omega
  · rw [hextras, List.length_append]
    exact hplace

/-- The tip of a party, which its floor keeps above what the tenders leave (R91). -/
theorem Party.MoneyFits.tip {p : Party} (h : p.MoneyFits) (cap requested : Nat) :
    ({ p with tip := p.limitTip cap requested } : Party).MoneyFits := by
  obtain ⟨hfare, htotal, hplaces, hextras⟩ := h
  refine ⟨hfare, ?_, hplaces, hextras⟩
  have hmax : tendersTotal p.tenders ≤ moneyMax := Nat.le_trans htotal (Nat.min_le_left _ _)
  have hfloor : tendersTotal p.tenders + 1 - p.fare - extrasTotal p.extras ≤ p.limitTip cap requested := Nat.le_max_right _ _
  show tendersTotal p.tenders ≤ min moneyMax (p.fare + extrasTotal p.extras + p.limitTip cap requested)
  omega

/-- A tender of no more than the amount remaining, in a free place (R84). -/
theorem Party.MoneyFits.tender {p q : Party} (h : p.MoneyFits) {t : Tender} (hplace : p.tenders.length < 4)
    (happlied : t.applied ≤ p.remaining) (hfare : q.fare = p.fare) (hextras : q.extras = p.extras) (htip : q.tip = p.tip)
    (htenders : q.tenders = p.tenders ++ [t]) : q.MoneyFits := by
  obtain ⟨hfits, htotal, -, hlist⟩ := h
  have hdue : q.due = p.due := by unfold Party.due; rw [hfare, hextras, htip]
  refine ⟨hfare ▸ hfits, ?_, by rw [htenders, List.length_append]; exact hplace, hextras ▸ hlist⟩
  have hsum : tendersTotal q.tenders = tendersTotal p.tenders + t.applied := by simp [htenders, tendersTotal]
  rw [hsum, hdue]
  unfold Party.remaining at happlied
  omega

theorem Party.canTake_places {p : Party} {amount : Nat} (h : p.canTake amount = true) : p.tenders.length < 4 := by
  simp only [Party.canTake, Bool.or_eq_true, Bool.and_eq_true, decide_eq_true_eq] at h
  omega

/-- A charged window raises the fare at most to its limit (R47). -/
theorem Party.MoneyFits.charge {p : Party} (h : p.MoneyFits) (t : Tariff) (k n m : Nat) : (p.charge t k n m).MoneyFits := by
  refine h.raised (Nat.min_le_left _ _) ?_ rfl h.2.2.2
  have hfare := h.1
  simp only [Party.due, Party.charge, Party.complete]
  omega

theorem Party.MoneyFits.reselect {p : Party} (h : p.MoneyFits) (store : TariffStore) : (p.reselect store).MoneyFits := by
  unfold Party.reselect
  split
  · exact h
  · exact h.same rfl rfl rfl rfl

theorem Party.MoneyFits.zoneEntry {p : Party} (h : p.MoneyFits) (store : TariffStore) : (p.zoneEntry store).MoneyFits := by
  unfold Party.zoneEntry
  split
  · exact h
  · split
    · unfold Party.enter
      split
      · next hplace => exact h.extra _ hplace rfl rfl rfl rfl
      · exact h.same rfl rfl rfl rfl
    · exact h

theorem Party.MoneyFits.atClosure {p : Party} (h : p.MoneyFits) (store : TariffStore) (k n m : Nat) :
    (p.atClosure store k n m).MoneyFits := by
  unfold Party.atClosure
  split
  · have hmetered : (p.metered store k n m).MoneyFits := by
      unfold Party.metered
      split
      · exact h.same rfl rfl rfl rfl
      · exact h.charge _ _ _ _
    exact (hmetered.reselect store).zoneEntry store
  · exact h

theorem Party.MoneyFits.restored {p : Party} (h : p.MoneyFits) (now : Stamp) : (p.restored now).MoneyFits := by
  unfold Party.restored
  split <;> exact h.same rfl rfl rfl rfl

/-! ## The state -/

/-- The money reads the tariff sets and the table alone. -/
theorem State.MoneyFits.congr {s t : State} (h : s.MoneyFits) (hstore : t.store = s.store) (htable : t.table = s.table) :
    t.MoneyFits := by
  unfold State.MoneyFits State.party
  rw [hstore, htable]
  exact h

theorem moneyFits_readsOnly : ReadsOnly [.store, .table] State.MoneyFits := fun _ _ h hs =>
  hs.congr (h .store (by simp)) (h .table (by simp))

theorem State.MoneyFits.sets {s t : State} (h : s.MoneyFits) (hactive : t.store.active = s.store.active)
    (hstaged : t.store.staged = s.store.staged) (htable : t.table = s.table) : t.MoneyFits := by
  unfold State.MoneyFits State.party
  rw [hactive, hstaged, htable]
  exact h

theorem State.MoneyFits.setParty {s : State} (h : s.MoneyFits) (i : Fin 4) {x : Option Party}
    (hx : ∀ p, x = some p → p.MoneyFits) : (s.setParty i x).MoneyFits := by
  obtain ⟨hactive, hstaged, hparties⟩ := h
  refine ⟨hactive, hstaged, fun j p hp => ?_⟩
  rw [State.setParty_party] at hp
  split at hp
  · exact hx p hp
  · exact hparties j p hp

theorem State.MoneyFits.put {s : State} (h : s.MoneyFits) (i : Fin 4) {p : Party} (hp : p.MoneyFits) :
    (s.setParty i (some p)).MoneyFits :=
  h.setParty i fun _ he => by cases he; exact hp

theorem State.MoneyFits.clear {s : State} (h : s.MoneyFits) (i : Fin 4) : (s.setParty i none).MoneyFits :=
  h.setParty i (by simp)

theorem State.MoneyFits.party {s : State} (h : s.MoneyFits) {i : Fin 4} {p : Party} (hp : s.party i = some p) : p.MoneyFits :=
  h.2.2 i p hp

/-! ## The commands -/

/-- The table's slots alone are read. -/
theorem State.MoneyFits.slots {s t : State} (h : s.MoneyFits) (hstore : t.store = s.store)
    (hslots : t.table.slots = s.table.slots) : t.MoneyFits := by
  unfold State.MoneyFits State.party
  rw [hstore, hslots]
  exact h

theorem startHireTaken_moneyFits (i : Fin 4) (hire : Nat) (pin : Option TariffNo) {s : State} (h : s.MoneyFits) :
    (startHireTaken s i hire pin).MoneyFits := by
  have hput : (s.setParty i (some (newParty s.store hire pin))).MoneyFits := h.put i (newParty_moneyFits h.1 hire pin)
  have henrolled : State.MoneyFits { s with table := s.table.enroll i (newParty s.store hire pin) } := hput.slots rfl rfl
  unfold startHireTaken
  dsimp only
  split
  · exact henrolled.congr (by simp) (by simp)
  · exact henrolled.congr (by simp) (by simp)

theorem startHire_moneyFits (pin : Byte) {s : State} (h : s.MoneyFits) : (startHire pin s).state.MoneyFits := by
  unfold startHire
  repeat' split
  all_goals first | exact h | exact startHireTaken_moneyFits _ _ _ h

theorem stopHire_moneyFits (slot : Byte) {s : State} (h : s.MoneyFits) : (stopHire slot s).state.MoneyFits := by
  unfold stopHire
  split
  · exact h
  · next i _ =>
    split
    · exact h
    · next p hscreen =>
      have hput : (s.setParty i (some (p.stop s.store.now))).MoneyFits :=
        h.put i ((h.party (State.screen_ok hscreen).1).same rfl rfl rfl rfl)
      split
      · exact h
      · split
        · exact h
        · exact hput.congr (by simp) (by simp)

theorem resumeHire_moneyFits (slot : Byte) {s : State} (h : s.MoneyFits) : (resumeHire slot s).state.MoneyFits := by
  unfold resumeHire
  split
  · exact h
  · next i _ =>
    split
    · exact h
    · next p hscreen =>
      have hput : (s.setParty i (some { p with state := .running, joining := true })).MoneyFits :=
        h.put i ((h.party (State.screen_ok hscreen).1).same rfl rfl rfl rfl)
      split
      · exact h
      · split
        · exact h
        · exact hput.congr (by simp) (by simp)

theorem addExtra_moneyFits (port : Port) (slot kind : Byte) (amount : Nat) {s : State} (h : s.MoneyFits) :
    (addExtra port slot kind amount s).state.MoneyFits := by
  have screened : ∀ (i : Fin 4) (e : Extra), (addExtraScreened i e s).state.MoneyFits := by
    intro i e
    unfold addExtraScreened
    split
    · exact h
    · next p hscreen =>
      split
      · exact h
      · split
        · exact h
        · next hplace =>
          exact h.put i ((h.party (State.screen_ok hscreen).1).extra e (Nat.lt_of_not_le hplace) rfl rfl rfl rfl)
  unfold addExtra
  repeat' split
  all_goals first | exact h | exact screened _ _

theorem pinTariff_moneyFits (slot tariff : Byte) {s : State} (h : s.MoneyFits) : (pinTariff slot tariff s).state.MoneyFits := by
  unfold pinTariff
  split
  · next i pin _ _ =>
    split
    · exact h
    · next p hscreen =>
      have hp : Party.MoneyFits { p with pin := pin } := (h.party (State.screen_ok hscreen).1).same rfl rfl rfl rfl
      exact h.put i (hp.reselect s.store)
  · exact h

theorem payOpen_moneyFits (slot : Byte) {s : State} (h : s.MoneyFits) : (payOpen slot s).state.MoneyFits := by
  have taken : ∀ {i : Fin 4} {p : Party}, s.party i = some p → (payOpenTaken s i p).MoneyFits := fun {i p} hp => by
    have hput : (s.setParty i (some { p with state := .paying, payment := some s.pay.counter })).MoneyFits :=
      h.put i ((h.party hp).same rfl rfl rfl rfl)
    exact hput.congr (by simp [payOpenTaken]) (by simp [payOpenTaken])
  unfold payOpen
  repeat' split
  all_goals first | exact h | exact taken ‹_›

theorem payTip_moneyFits (payment hire tip : Nat) {s : State} (h : s.MoneyFits) : (payTip payment hire tip s).state.MoneyFits := by
  unfold payTip
  repeat' split
  all_goals first | exact h | exact h.put _ ((h.party ‹_›).tip _ _)

theorem State.enterClosing_moneyFits {s : State} {i : Fin 4} {p : Party} (h : s.MoneyFits) (hp : p.MoneyFits) :
    (s.enterClosing i p).MoneyFits :=
  (h.put i (p := { p with state := .closing, payment := none }) (hp.same rfl rfl rfl rfl)).congr rfl rfl

/-- A tender of no more than the amount remaining, in a free place, keeps the money within its limits (R84). -/
theorem State.applyTender_moneyFits {s : State} (i : Fin 4) {p : Party} {t : Tender} (h : s.MoneyFits) (hp : p.MoneyFits)
    (hplace : p.tenders.length < 4) (happlied : t.applied ≤ p.remaining) : (s.applyTender i p t).MoneyFits := by
  obtain ⟨-, he⟩ | ⟨-, he⟩ := s.applyTender_cases i p t <;> rw [he]
  · exact State.enterClosing_moneyFits h (hp.tender hplace happlied rfl rfl rfl rfl)
  · exact h.put i (hp.tender hplace happlied rfl rfl rfl rfl)

theorem State.releaseParty_moneyFits {s : State} (i : Fin 4) (h : s.MoneyFits) : (s.releaseParty i).MoneyFits := by
  cases hp : s.party i with
  | none => rwa [State.releaseParty_none hp]
  | some p =>
    rw [State.releaseParty_some hp]
    exact h.put i ((h.party hp).same rfl rfl rfl rfl)

theorem applyOpen_moneyFits {x : Session} {p : Party} (offline : Bool) {amount : Nat} (reference : Nat) {s : State}
    (h : s.MoneyFits) (hp : p.MoneyFits) (htake : p.canTake amount = true) :
    (applyOpen x p offline amount reference s).state.MoneyFits := by
  have hpay : State.MoneyFits { s with pay := s.pay.close x .result } := h
  have happlied : (s.approvalTender p x.payment offline amount reference).applied ≤ (p.noteExcess amount).remaining := by
    rw [State.approvalTender_applied]
    exact Nat.min_le_right _ _
  have hdone := State.applyTender_moneyFits x.slot hpay (p := p.noteExcess amount) (hp.same rfl rfl rfl rfl)
    (Party.canTake_places htake) happlied
  exact hdone.congr (by simp [applyOpen]) (by simp [applyOpen])

theorem orphanOpen_moneyFits {x : Session} (offline : Bool) (amount reference : Nat) {s : State} (h : s.MoneyFits) :
    (orphanOpen x offline amount reference s).state.MoneyFits := by
  unfold orphanOpen
  split
  · have hpay : State.MoneyFits { s.queueOrphan (s.orphanOf x.payment (some x.hire) offline amount reference) with
        pay := (s.queueOrphan (s.orphanOf x.payment (some x.hire) offline amount reference)).pay.close x .result } := h
    exact (State.releaseParty_moneyFits x.slot hpay).congr (by simp) (by simp)
  · exact h

theorem declineOpen_moneyFits {x : Session} (declined : Bool) {s : State} (h : s.MoneyFits) :
    (declineOpen x declined s).state.MoneyFits := by
  have hpay : State.MoneyFits { s with
    pay := s.pay.close x .result
    shift := s.shift.gain (fun c =>
      if declined then { c with declines := satAdd max32 c.declines 1 } else { c with aborts := satAdd max32 c.aborts 1 }) } := h
  exact (State.releaseParty_moneyFits x.slot hpay).congr (by simp [declineOpen]) (by simp [declineOpen])

theorem lateParty_canTake {s : State} {it : RecentSession} {amount : Nat} {p : Party} (h : s.lateParty it amount = some p) :
    p.canTake amount = true := by
  unfold State.lateParty at h
  split at h
  · cases h
  · split at h
    · next hfit =>
      cases h
      obtain ⟨-, -, -, -, htake⟩ := hfit
      exact htake
    · cases h

theorem applyLate_moneyFits {it : RecentSession} {p : Party} (offline : Bool) {amount : Nat} (reference : Nat) {s : State}
    (h : s.MoneyFits) (hp : p.MoneyFits) (htake : p.canTake amount = true) :
    (applyLate it p offline amount reference s).state.MoneyFits := by
  have hpay : State.MoneyFits { s with pay := { s.pay with recent := markResult s.pay.recent it } } := h
  have happlied : (s.approvalTender p it.payment offline amount reference).applied ≤
      ({ p.noteExcess amount with lateApproval := true } : Party).remaining := by
    rw [State.approvalTender_applied]
    exact Nat.min_le_right _ _
  have hdone := State.applyTender_moneyFits it.slot hpay (p := { p.noteExcess amount with lateApproval := true })
    (hp.same rfl rfl rfl rfl) (Party.canTake_places htake) happlied
  exact hdone.congr (by simp [applyLate]) (by simp [applyLate])

theorem orphanLate_moneyFits (found : Option RecentSession) (payment : Nat) (offline : Bool) (amount reference : Nat)
    {s : State} (h : s.MoneyFits) : (orphanLate found payment offline amount reference s).state.MoneyFits := by
  unfold orphanLate
  repeat' split
  all_goals exact h

theorem approval_moneyFits (payment hire : Nat) (offline : Bool) (amount reference : Nat) {s : State} (h : s.MoneyFits) :
    (approval payment hire offline amount reference s).state.MoneyFits := by
  unfold approval
  split
  · exact h
  · split
    · unfold approveOpen
      split
      · exact orphanOpen_moneyFits _ _ _ h
      · next hp =>
        split
        · next htake => exact applyOpen_moneyFits _ _ h (h.party hp) htake
        · exact orphanOpen_moneyFits _ _ _ h
    · unfold approveLate
      split
      · exact orphanLate_moneyFits _ _ _ _ _ h
      · split
        · next hlate =>
          exact applyLate_moneyFits _ _ h (h.party (lateParty_some hlate).1) (lateParty_canTake hlate)
        · exact orphanLate_moneyFits _ _ _ _ _ h

theorem decline_moneyFits (payment hire : Nat) (declined : Bool) {s : State} (h : s.MoneyFits) :
    (decline payment hire declined s).state.MoneyFits := by
  unfold decline
  split
  · exact declineOpen_moneyFits declined h
  · exact h

theorem payResult_moneyFits (payment hire : Nat) (outcome : Byte) (amount reference : Nat) {s : State} (h : s.MoneyFits) :
    (payResult payment hire outcome amount reference s).state.MoneyFits := by
  unfold payResult
  repeat' split
  all_goals first | exact h | exact approval_moneyFits _ _ _ _ _ h | exact decline_moneyFits _ _ _ h

theorem cashSettle_moneyFits (slot : Byte) (amount : Nat) {s : State} (h : s.MoneyFits) :
    (cashSettle slot amount s).state.MoneyFits := by
  have taken : ∀ {i : Fin 4} {p : Party}, s.party i = some p → ¬4 ≤ p.tenders.length →
      (cashTaken i p amount s).state.MoneyFits := by
    intro i p hp hplace
    unfold cashTaken
    split
    · exact (State.enterClosing_moneyFits (i := i) h (h.party hp)).congr (by simp) (by simp)
    · have hdone := State.applyTender_moneyFits i (t := .cash (min amount p.remaining)) h (h.party hp) (Nat.lt_of_not_le hplace)
        (Nat.min_le_right _ _)
      exact hdone.congr (by simp) (by simp)
  unfold cashSettle
  repeat' split
  all_goals first | exact h | exact taken ‹_› ‹_›

theorem sessionExpiry_moneyFits {s : State} (h : s.MoneyFits) : (sessionExpiry s).MoneyFits := by
  unfold sessionExpiry
  split
  · exact h
  · next x _ =>
    have hpay : State.MoneyFits { s with
      pay := s.pay.close x .expired
      shift := s.shift.gain (fun c => { c with expiries := satAdd max32 c.expiries 1 }) } := h
    exact (State.releaseParty_moneyFits x.slot hpay).congr (by simp) (by simp)

theorem setDuty_moneyFits (v : Byte) {s : State} (h : s.MoneyFits) : (setDuty v s).state.MoneyFits := by
  unfold setDuty
  split
  · exact h
  · exact h.slots (by simp) (by simp)
  · exact h.slots (by simp) (by simp)

theorem setOnCall_moneyFits (v : Byte) {s : State} (h : s.MoneyFits) : (setOnCall v s).state.MoneyFits := by
  unfold setOnCall
  repeat' split
  all_goals first | exact h | exact h.slots (by simp) (by simp)

theorem setSeatLimit_moneyFits (n : Nat) {s : State} (h : s.MoneyFits) : (setSeatLimit n s).state.MoneyFits := by
  unfold setSeatLimit
  repeat' split
  all_goals first | exact h | exact h.slots (by simp) (by simp)

theorem shiftClose_moneyFits {s : State} (h : s.MoneyFits) : (shiftClose s).state.MoneyFits := by
  unfold shiftClose
  repeat' split
  all_goals first | exact h | exact h.slots (by simp) (by simp)

theorem tariffBegin_moneyFits {s : State} (h : s.MoneyFits) : (tariffBegin s).state.MoneyFits := by
  unfold tariffBegin
  split
  · exact h
  · exact ⟨h.1, TariffSet.empty_inRange, h.2.2⟩

theorem tariffItem_moneyFits (kind number form : Byte) (fields : BitVec 176) {s : State} (h : s.MoneyFits) :
    (tariffItem kind number form fields s).state.MoneyFits := by
  unfold tariffItem
  split
  · exact h
  · split
    · exact h
    · split
      · exact h
      · split
        · exact h
        · next hw => exact ⟨h.1, h.2.1.write hw, h.2.2⟩

theorem tariffCommit_moneyFits (version : BitVec 16) {s : State} (h : s.MoneyFits) :
    (tariffCommit version s).state.MoneyFits := by
  unfold tariffCommit
  repeat' split
  all_goals exact h

theorem setHoliday_moneyFits (v : Byte) {s : State} (h : s.MoneyFits) : (setHoliday v s).state.MoneyFits := by
  unfold setHoliday
  split <;> exact h

theorem zoneReport_moneyFits (code : BitVec 16) (quality : Byte) {s : State} (h : s.MoneyFits) :
    (zoneReport code quality s).state.MoneyFits := by
  unfold zoneReport
  split
  · exact h
  · exact h.sets (by rw [State.raiseIf_store]; rfl) (by rw [State.raiseIf_store]; rfl) (by rw [State.raiseIf_table]; rfl)
  · exact h.sets (by rw [State.raiseIf_store]; rfl) (by rw [State.raiseIf_store]; rfl) (by rw [State.raiseIf_table]; rfl)

theorem setZoneWatch_moneyFits (threshold limit : Nat) {s : State} (h : s.MoneyFits) :
    (setZoneWatch threshold limit s).state.MoneyFits := by
  unfold setZoneWatch
  split <;> exact h

theorem zoneWatchExpiry_moneyFits {s : State} (h : s.MoneyFits) : (zoneWatchExpiry s).MoneyFits := by
  unfold zoneWatchExpiry
  split
  · exact h.sets (by rw [State.raiseIf_store]; rfl) (by rw [State.raiseIf_store]; rfl) (by rw [State.raiseIf_table]; rfl)
  · exact h

theorem windowClose_moneyFits (sense : LampSense) {s : State} (h : s.MoneyFits) : (windowClose sense s).MoneyFits := by
  obtain ⟨-, -, -, -, -, -, -, hstore, -⟩ := windowClose_parts s sense
  have hsets : (windowClose sense s).store.active = s.store.active ∧ (windowClose sense s).store.staged = s.store.staged := by
    rw [hstore]
    obtain he | ⟨v, -, -, he⟩ := (s.closed sense).tryActivate_cases <;> rw [he] <;> exact ⟨rfl, rfl⟩
  refine ⟨hsets.1 ▸ h.1, hsets.2 ▸ h.2.1, fun i p hp => ?_⟩
  rw [windowClose_party] at hp
  obtain ⟨x, hx, rfl⟩ := Option.map_eq_some_iff.mp hp
  exact (h.party hx).atClosure _ _ _ _

theorem afterStored_moneyFits {s : State} (e : Entry) (h : s.MoneyFits) : (s.afterStored e).MoneyFits := by
  unfold State.afterStored
  split
  · next t _ => exact (h.clear t.slot).congr (by simp) (by simp)
  · exact h.congr (by simp) (by simp)
  · exact h
  · exact h
  · exact ⟨h.2.1, TariffSet.empty_inRange, h.2.2⟩

theorem appendComplete_moneyFits {s : State} (h : s.MoneyFits) : (appendComplete s).MoneyFits := by
  obtain ⟨-, he⟩ | ⟨b, -, he⟩ := appendComplete_cases s <;> rw [he]
  · exact h
  · exact afterStored_moneyFits _ (h.congr rfl rfl)

theorem firstUpdate_moneyFits {s : State} (e : Entry) (h : s.MoneyFits) : (s.firstUpdate e).MoneyFits := by
  unfold State.firstUpdate
  split
  · exact afterStored_moneyFits e h
  · exact afterStored_moneyFits e h
  · exact h

theorem secondUpdate_moneyFits {s : State} (e : Entry) (h : s.MoneyFits) : (s.secondUpdate e).MoneyFits := by
  have marked : ∀ i, (s.markCounted i).MoneyFits := fun i => by
    refine h.setParty i fun q hq => ?_
    obtain ⟨p, hp, rfl⟩ := Option.map_eq_some_iff.mp hq
    exact (h.party hp).same rfl rfl rfl rfl
  unfold State.secondUpdate
  split
  · exact (marked _).congr rfl rfl
  · exact h
  · exact firstUpdate_moneyFits e h

theorem cutAt_moneyFits (cut : PowerCut) {s : State} (h : s.MoneyFits) : (s.cutAt cut).MoneyFits := by
  have stored : ∀ {e : Entry} {t : State}, s.storeHead = some (e, t) → t.MoneyFits := fun ht => by
    obtain ⟨b, -, -, rfl⟩ := State.storeHead_eq ht
    exact h.congr rfl rfl
  unfold State.cutAt
  repeat' split
  all_goals first
    | exact h
    | exact firstUpdate_moneyFits _ (stored ‹_›)
    | exact secondUpdate_moneyFits _ (stored ‹_›)

theorem restoreSlot_moneyFits (i : Fin 4) {s : State} (h : s.MoneyFits) : (s.restoreSlot i).MoneyFits := by
  obtain ⟨p, t, -, -, -, -, he⟩ | ⟨p, -, -, -, he⟩ | ⟨p, hp, -, he⟩ | ⟨-, he⟩ := s.restoreSlot_cases i <;> rw [he]
  · exact (h.clear i).congr rfl rfl
  · exact h.congr rfl rfl
  · exact h.put i ((h.party hp).restored _)
  · exact h

theorem restoreShift_moneyFits {s : State} (h : s.MoneyFits) : s.restoreShift.MoneyFits := by
  obtain ⟨-, he⟩ | ⟨_, _, -, -, -, he⟩ | ⟨-, -, _, he⟩ := s.restoreShift_cases <;> rw [he]
  · exact h
  · exact h.congr rfl rfl
  · exact h.congr rfl rfl

theorem countInterruption_moneyFits {s : State} (h : s.MoneyFits) : s.countInterruption.MoneyFits := h.congr rfl rfl

theorem firstSign_moneyFits {s : State} (h : s.MoneyFits) : s.firstSign.MoneyFits := h.congr rfl rfl

theorem restart_moneyFits (levels : InputLevels) (backup : Backup) {s : State} (h : s.MoneyFits) :
    (restart levels backup s).MoneyFits := by
  obtain ⟨hactive, hstaged⟩ := s.dropVolatile.store.recoverClock_sets s.dropVolatile.secondMs backup
  have hwake : (s.wake levels backup).MoneyFits :=
    h.sets (by rw [State.wake_store]; exact hactive) (by rw [State.wake_store]; exact hstaged) rfl
  have hslots := restoreSlot_moneyFits 3 (restoreSlot_moneyFits 2 (restoreSlot_moneyFits 1 (restoreSlot_moneyFits 0 hwake)))
  exact firstSign_moneyFits (countInterruption_moneyFits (restoreShift_moneyFits hslots))

/-- Every command keeps the money within its limits. -/
theorem exec_moneyFits {c : Instr} {s t : State} (hs : s.MoneyFits) (h : exec c s = .next t) : t.MoneyFits := by
  have req := @ReadsOnly.request _ _ moneyFits_readsOnly (by decide)
  have event := @event_keeps State.MoneyFits
  have frame := @ReadsOnly.exec _ _ moneyFits_readsOnly c s t h
  cases c
  case startHire => exact req h (fun _ => startHire_moneyFits _ hs) hs
  case stopHire => exact req h (fun _ => stopHire_moneyFits _ hs) hs
  case resumeHire => exact req h (fun _ => resumeHire_moneyFits _ hs) hs
  case addExtra => exact req h (fun _ => addExtra_moneyFits _ _ _ _ hs) hs
  case pinTariff => exact req h (fun _ => pinTariff_moneyFits _ _ hs) hs
  case setDuty => exact req h (fun _ => setDuty_moneyFits _ hs) hs
  case setOnCall => exact req h (fun _ => setOnCall_moneyFits _ hs) hs
  case setSeatLimit => exact req h (fun _ => setSeatLimit_moneyFits _ hs) hs
  case payOpen => exact req h (fun _ => payOpen_moneyFits _ hs) hs
  case payTip => exact req h (fun _ => payTip_moneyFits _ _ _ hs) hs
  case payResult => exact req h (fun _ => payResult_moneyFits _ _ _ _ _ hs) hs
  case cashSettle => exact req h (fun _ => cashSettle_moneyFits _ _ hs) hs
  case shiftClose => exact req h (fun _ => shiftClose_moneyFits hs) hs
  case tariffBegin => exact req h (fun _ => tariffBegin_moneyFits hs) hs
  case tariffItem => exact req h (fun _ => tariffItem_moneyFits _ _ _ _ hs) hs
  case tariffCommit => exact req h (fun _ => tariffCommit_moneyFits _ hs) hs
  case setClock => exact req h (fun _ => hs.sets rfl rfl rfl) hs
  case setHoliday => exact req h (fun _ => setHoliday_moneyFits _ hs) hs
  case zoneReport => exact req h (fun _ => zoneReport_moneyFits _ _ hs) hs
  case setZoneWatch => exact req h (fun _ => setZoneWatch_moneyFits _ _ hs) hs
  case windowClose => exact event h hs fun _ _ => windowClose_moneyFits _ hs
  case sessionExpiry => exact event h hs fun _ _ => sessionExpiry_moneyFits hs
  case zoneWatchExpiry => exact event h hs fun _ _ => zoneWatchExpiry_moneyFits hs
  case clockSecond =>
    obtain ⟨hactive, hstaged, -⟩ := s.store.advance_sets 1
    exact event h hs fun _ _ => hs.sets hactive hstaged rfl
  case appendComplete => exact event h hs fun _ _ => appendComplete_moneyFits hs
  case powerLoss cut => exact event h hs fun _ _ => (cutAt_moneyFits cut hs).sets rfl rfl rfl
  case restart levels backup =>
    obtain rfl : restart levels backup s = t := by simpa [exec, execRestart] using h
    exact restart_moneyFits levels backup hs
  all_goals exact frame (by simp [touches]) hs

/-- Settles O58: every command keeps each record's money, and an idle step does not touch it. -/
theorem moneyStaysWithinLimits : Obligations.MoneyStaysWithinLimits := by
  intro s t hs hstep
  exact step_keeps (fun _ _ _ => exec_moneyFits) (fun _ _ hu => hu.congr rfl rfl) (fun _ _ hu => hu.sets rfl rfl rfl) hstep hs

end Sys2Proof.Machine
end


section
/-! The bounds of the units one by one: the measurement unit (R9), the notice unit (R190, R192), the payment unit (R87). For
each, a predicate of the unit alone that every command keeps. -/

namespace Sys2Proof.Machine

/-! ## The measurement unit (R9) -/

/-- No calibration run under a CLOSED seal, and a seal input that waits for less than a limit. -/
def Measurement.Guarded (limit : Nat) (m : Measurement) : Prop :=
  (m.sealState = .closed → m.run = .idle ∧ m.sealInput = .closed) ∧ m.sealPin.Waits m.sealInput limit

theorem Pin.at_waits {α : Type} (x : Pin α) (level debounced : α) {limit : Nat} (h : 0 < limit) :
    (x.at level).Waits debounced limit :=
  ⟨h, fun hne => absurd rfl hne⟩

/-- A millisecond more lets an input wait up to its debounce time. -/
theorem Pin.tick_waits {α : Type} [DecidableEq α] {x : Pin α} {debounced : α} {limit : Nat} (h : x.Waits debounced limit) :
    (x.tick debounced).Waits debounced (limit + 1) := by
  have hlt : x.stable < limit := h.1
  unfold Pin.tick Pin.Waits
  dsimp only
  split
  · exact ⟨Nat.succ_pos _, fun hne => absurd rfl hne⟩
  · next hlevel => exact ⟨Nat.succ_lt_succ hlt, fun _ => hlevel⟩

section Guarded

variable {limit : Nat} {m : Measurement}

/-- A run in progress shows an OPEN seal. -/
theorem Measurement.Guarded.opened (h : m.Guarded limit) (hrun : m.run ≠ .idle) : m.sealState ≠ .closed :=
  fun hclosed => hrun (h.1 hclosed).1

theorem Measurement.Guarded.setRun (h : m.Guarded limit) (r : CalRun) (hopen : m.sealState ≠ .closed ∨ r = .idle) :
    ({ m with run := r } : Measurement).Guarded limit :=
  ⟨fun hclosed => ⟨hopen.resolve_left (Classical.not_not.mpr hclosed), (h.1 hclosed).2⟩, h.2⟩

theorem Measurement.Guarded.pulse (h : m.Guarded limit) (r : Nat) :
    ({ m with raw := r, run := m.run.pulse } : Measurement).Guarded limit := by
  refine ⟨fun hclosed => ⟨?_, (h.1 hclosed).2⟩, h.2⟩
  show m.run.pulse = .idle
  rw [(h.1 hclosed).1]
  rfl

/-- The closure leaves the seal and the run alone. -/
theorem Measurement.Guarded.close (h : m.Guarded limit) : m.close.Guarded limit := h

theorem Measurement.Guarded.adopt (h : m.Guarded limit) (k ceiling count : Nat) : (m.adopt k ceiling count).Guarded limit :=
  ⟨fun hclosed => ⟨rfl, hclosed⟩, h.2⟩

theorem Measurement.Guarded.restarted (hpos : 0 < limit) (h : m.Guarded limit) : m.restarted.Guarded limit :=
  ⟨fun hclosed => ⟨rfl, (h.1 hclosed).2⟩, Pin.at_waits _ _ _ hpos⟩

end Guarded

section Commands

variable {limit : Nat} (hpos : 0 < limit) {s : State} (h : s.meas.Guarded limit)

include h

theorem calBegin_guarded (course : Nat) : (calBegin course s).state.meas.Guarded limit := by
  unfold calBegin calBeginFree
  repeat' split
  all_goals first | exact h | exact h.setRun _ (.inl ‹_›)

theorem calMark_guarded : (calMark s).state.meas.Guarded limit := by
  unfold calMark
  split
  · next hrun => exact h.setRun _ (.inl (h.opened (by rw [hrun]; nofun)))
  · next hrun =>
    have hopen : s.meas.sealState ≠ .closed := h.opened (by rw [hrun]; nofun)
    split
    · exact h.setRun _ (.inl hopen)
    · exact h.setRun _ (.inl hopen)
  · exact h
  · exact h

theorem calAbort_guarded : (calAbort s).state.meas.Guarded limit := by
  unfold calAbort
  split
  · exact h
  · exact h.setRun _ (.inr rfl)

theorem calAdopt_guarded (ceiling : Nat) : (calAdopt ceiling s).state.meas.Guarded limit := by
  unfold calAdopt
  split
  · exact h
  · split
    · exact h
    · split
      · exact h
      · next hopen =>
        repeat' split
        all_goals first | exact h | exact h.setRun _ (.inl hopen)

theorem afterStored_guarded (e : Entry) : (s.afterStored e).meas.Guarded limit := by
  unfold State.afterStored
  split
  · rw [State.updateSign_meas]; exact h
  · rw [State.raise_meas, State.updateSign_meas]; exact h
  · exact h
  · exact h.adopt _ _ _
  · exact h

theorem appendComplete_guarded : (appendComplete s).meas.Guarded limit := by
  obtain ⟨-, he⟩ | ⟨b, -, he⟩ := appendComplete_cases s <;> rw [he]
  · exact h
  · exact afterStored_guarded (s := { s with journal := s.journal.complete _ }) h _

theorem cutAt_guarded (cut : PowerCut) : (s.cutAt cut).meas.Guarded limit := by
  have stored : ∀ {e : Entry} {t : State}, s.storeHead = some (e, t) → t.meas.Guarded limit := fun ht => by
    obtain ⟨b, -, -, rfl⟩ := State.storeHead_eq ht
    exact h
  have first : ∀ (t : State) (e : Entry), t.meas.Guarded limit → (t.firstUpdate e).meas.Guarded limit := fun t e ht => by
    unfold State.firstUpdate
    split
    · exact afterStored_guarded ht e
    · exact afterStored_guarded ht e
    · exact ht
  have second : ∀ (t : State) (e : Entry), t.meas.Guarded limit → (t.secondUpdate e).meas.Guarded limit := fun t e ht => by
    unfold State.secondUpdate
    split
    · exact ht
    · exact ht
    · exact first t e ht
  unfold State.cutAt
  repeat' split
  all_goals first | exact h | exact first _ _ (stored ‹_›) | exact second _ _ (stored ‹_›)

include hpos

theorem sealClose_guarded : (sealClose s).meas.Guarded limit := by
  unfold sealClose
  dsimp only
  split
  · next hrun => exact ⟨fun hclosed => absurd hclosed (h.opened (by rw [hrun]; nofun)), Pin.at_waits _ _ _ hpos⟩
  · exact ⟨fun _ => ⟨rfl, rfl⟩, Pin.at_waits _ _ _ hpos⟩

omit h in
theorem sealOpen_guarded : (sealOpen s).meas.Guarded limit := ⟨nofun, Pin.at_waits _ _ _ hpos⟩

end Commands

theorem State.wake_meas (s : State) (levels : InputLevels) (backup : Backup) : (s.wake levels backup).meas =
    { s.meas.restarted with
      sealInput := levels.sealInput, sealState := levels.sealInput, sealPin := s.meas.restarted.sealPin.at levels.sealInput } :=
  rfl

theorem State.restore_frame (s : State) : ChangesOnly [.table, .journal, .shift, .notices] s s.restore := by
  have slots := ((s.restoreSlot_frame 0).trans ((s.restoreSlot 0).restoreSlot_frame 1)).trans
    ((((s.restoreSlot 0).restoreSlot 1).restoreSlot_frame 2).trans
      ((((s.restoreSlot 0).restoreSlot 1).restoreSlot 2).restoreSlot_frame 3))
  have shift : ∀ u : State, ChangesOnly [.table, .journal, .shift, .notices] u u.restoreShift := fun u => by
    obtain ⟨-, h⟩ | ⟨_, _, -, -, -, h⟩ | ⟨-, -, _, h⟩ := u.restoreShift_cases <;> rw [h] <;> intro d hd <;> cases d <;>
      first | rfl | simp at hd
  have count : ∀ u : State, ChangesOnly [.table, .journal, .shift, .notices] u u.countInterruption := fun u d hd => by
    cases d <;> first | rfl | simp at hd
  exact ((slots.mono (by decide)).trans (shift _)).trans (count _)

theorem restart_guarded (levels : InputLevels) (backup : Backup) {limit : Nat} (hpos : 0 < limit) (s : State) :
    (restart levels backup s).meas.Guarded limit := by
  have hmeas : (restart levels backup s).meas = (s.wake levels backup).meas :=
    (s.wake levels backup).restore_frame .meas (by decide)
  rw [hmeas, State.wake_meas]
  exact ⟨fun hclosed => ⟨rfl, hclosed⟩, Pin.at_waits _ _ _ hpos⟩

theorem guarded_readsOnly (limit : Nat) : ReadsOnly [.meas] (fun s => s.meas.Guarded limit) := fun s t h hs => by
  have hmeas : t.meas = s.meas := h .meas (by simp)
  show t.meas.Guarded limit
  rw [hmeas]
  exact hs

theorem exec_guarded {limit : Nat} (hpos : 0 < limit) {c : Instr} {s t : State} (hs : s.meas.Guarded limit)
    (h : exec c s = .next t) : t.meas.Guarded limit := by
  have req := @ReadsOnly.request _ _ (guarded_readsOnly limit) (by decide)
  have event := @event_keeps (fun u => u.meas.Guarded limit)
  have frame := @ReadsOnly.exec _ _ (guarded_readsOnly limit) c s t h
  cases c
  case setStopInterlock => exact req h (fun _ => by unfold setStopInterlock; split <;> exact hs) hs
  case calBegin => exact req h (fun _ => calBegin_guarded hs _) hs
  case calMark => exact req h (fun _ => calMark_guarded hs) hs
  case calAbort => exact req h (fun _ => calAbort_guarded hs) hs
  case calAdopt => exact req h (fun _ => calAdopt_guarded hs _) hs
  case distancePulse => exact event h hs fun _ _ => hs.pulse _
  case sealClose => exact event h hs fun _ _ => sealClose_guarded hpos hs
  case sealOpen => exact event h hs fun _ _ => sealOpen_guarded hpos
  case appendComplete => exact event h hs fun _ _ => appendComplete_guarded hs
  case windowClose sense =>
    exact event h hs fun _ _ => by
      obtain ⟨hmeas, -⟩ := windowClose_parts s sense
      rw [hmeas]
      exact hs.close
  case powerLoss cut => exact event h hs fun _ _ => (cutAt_guarded hs cut).restarted hpos
  case restart levels backup =>
    obtain rfl : restart levels backup s = t := by simpa [exec, execRestart] using h
    exact restart_guarded levels backup hpos s
  all_goals exact frame (by simp [touches]) hs

/-! ## The notice unit (R190, R192) -/

/-- The routes hold their minimums and the message queues are within their places. -/
def Notices.Bounded (n : Notices) : Prop :=
  (∀ i : Fin 20, PortSet.diff mandatoryMinimums[i] n.routes[i] = PortSet.empty) ∧ ∀ p, (n.ports.get p).messages.length ≤ 4

section Bounded

variable {s : State}

theorem State.raise_bounded {u : State} (hu : u.notices.Bounded) (src : NoticeSource) : (u.raise src).notices.Bounded := by
  refine ⟨hu.1, fun p => ?_⟩
  rw [State.raise_port]
  split
  · exact hu.2 p
  · exact hu.2 p

theorem State.raiseIf_bounded {u : State} (hu : u.notices.Bounded) (c : Bool) (src : NoticeSource) :
    (u.raiseIf c src).notices.Bounded := by
  cases c
  · exact hu
  · exact State.raise_bounded hu src

theorem State.setNotices_bounded (h : s.notices.Bounded) (p : Port) {x : PortNotices} (hx : x.messages.length ≤ 4) :
    (s.setNotices p x).notices.Bounded := by
  refine ⟨h.1, fun q => ?_⟩
  by_cases hq : q = p
  · subst hq
    simpa [State.setNotices] using hx
  · simpa [State.setNotices, PerPort.get_set_other _ _ _ _ hq] using h.2 q

/-- A port set joined with another lacks nothing of it. -/
theorem PortSet.diff_union (a b : PortSet) : PortSet.diff b (PortSet.union a b) = PortSet.empty := by
  obtain ⟨a1, a2, a3⟩ := a
  obtain ⟨b1, b2, b3⟩ := b
  revert a1 a2 a3 b1 b2 b3
  decide

variable (h : s.notices.Bounded)

include h

theorem setRoute_bounded (source ports : Byte) : (setRoute source ports s).state.notices.Bounded := by
  unfold setRoute
  split
  · next i given _ _ =>
    refine ⟨fun j => ?_, h.2⟩
    simp only [Fin.getElem_fin, Vector.getElem_set]
    split
    · next hij =>
      obtain rfl : i = j := Fin.ext hij
      exact PortSet.diff_union _ _
    · exact h.1 j
  · exact h

theorem readNotices_bounded (p : Port) (option : Byte) : (readNotices p option s).state.notices.Bounded := by
  unfold readNotices
  split
  · exact h
  · dsimp only
    split
    · exact State.setNotices_bounded h p (h.2 p)
    · exact h

theorem clearNotices_bounded (p : Port) (sources : BitVec 32) : (clearNotices p sources s).state.notices.Bounded := by
  unfold clearNotices
  split
  · exact h
  · exact State.setNotices_bounded h p (h.2 p)

theorem setNoticeEnable_bounded (p : Port) (sources : BitVec 32) : (setNoticeEnable p sources s).state.notices.Bounded := by
  unfold setNoticeEnable
  split
  · exact h
  · exact State.setNotices_bounded h p (h.2 p)

theorem postMessage_bounded (p : Port) (target : Byte) (text : List Byte) :
    (postMessage p target text s).state.notices.Bounded := by
  unfold postMessage
  split
  · exact h
  · next q _ =>
    split
    · exact h
    · split
      · exact h
      · dsimp only
        split
        · exact h
        · next hplace =>
          refine State.setNotices_bounded h q ?_
          show ((s.notices.ports.get q).messages ++ _).length ≤ 4
          rw [List.length_append]
          exact Nat.lt_of_not_le hplace

theorem takeMessage_bounded (p : Port) : (takeMessage p s).state.notices.Bounded := by
  unfold takeMessage
  split
  · exact h
  · next m rest hmessages =>
    refine State.setNotices_bounded h p ?_
    have := h.2 p
    rw [hmessages] at this
    exact Nat.le_of_succ_le this

theorem calMark_bounded : (calMark s).state.notices.Bounded := by
  unfold calMark
  repeat' split
  all_goals first | exact h | exact State.raise_bounded (u := s.setRun _) h _

theorem zoneReport_bounded (code : BitVec 16) (quality : Byte) : (zoneReport code quality s).state.notices.Bounded := by
  have zoned : ∀ z, (s.setZone z).notices.Bounded := fun _ => h
  unfold zoneReport
  split
  · exact h
  · exact State.raiseIf_bounded (zoned _) _ _
  · exact State.raiseIf_bounded (zoned _) _ _

theorem zoneWatchExpiry_bounded : (zoneWatchExpiry s).notices.Bounded := by
  have zoned : ∀ z, (s.setZone z).notices.Bounded := fun _ => h
  unfold zoneWatchExpiry
  split
  · exact State.raiseIf_bounded (zoned _) _ _
  · exact h

theorem startHire_bounded (pin : Byte) : (startHire pin s).state.notices.Bounded := by
  have taken : ∀ (i : Fin 4) (hire : Nat) (pin : Option TariffNo), (startHireTaken s i hire pin).notices.Bounded := by
    intro i hire pin
    have hraise : ∀ u : State, u.notices = s.notices → (u.raise .hireStarted).notices.Bounded := fun u hu =>
      State.raise_bounded (by rw [hu]; exact h) _
    unfold startHireTaken
    dsimp only
    split
    · exact hraise _ (by simp)
    · exact hraise _ (by simp)
  unfold startHire
  repeat' split
  all_goals first | exact h | exact taken _ _ _

theorem stopHire_bounded (slot : Byte) : (stopHire slot s).state.notices.Bounded := by
  unfold stopHire
  repeat' split
  all_goals first | exact h | (rw [State.updateSign_notices]; exact State.raise_bounded (u := s.setParty _ _) h _)

theorem payOpen_bounded (slot : Byte) : (payOpen slot s).state.notices.Bounded := by
  unfold payOpen
  repeat' split
  all_goals first | exact h | (unfold payOpenTaken; rw [State.updateSign_notices]; exact State.raise_bounded h _)

theorem updateSign_raise_bounded (src : NoticeSource) : (s.updateSign.raise src).notices.Bounded :=
  State.raise_bounded (by rw [State.updateSign_notices]; exact h) src

theorem queueOrphan_bounded (o : OrphanEntry) : (s.queueOrphan o).notices.Bounded :=
  State.raise_bounded (by exact h) .orphanApproval

theorem approveOpen_bounded (x : Session) (offline : Bool) (amount reference : Nat) :
    (approveOpen x offline amount reference s).state.notices.Bounded := by
  have applied : ∀ p, (applyOpen x p offline amount reference s).state.notices.Bounded := fun p => by
    simp only [applyOpen, State.settleGates_notices, State.requestTone_notices]
    exact updateSign_raise_bounded (by rw [State.applyTender_notices]; exact h) .paymentResult
  have orphaned : (orphanOpen x offline amount reference s).state.notices.Bounded := by
    unfold orphanOpen
    split
    · simp only [State.settleGates_notices, State.requestTone_notices]
      exact updateSign_raise_bounded (by rw [State.releaseParty_notices]; exact queueOrphan_bounded h _) .paymentResult
    · exact h
  unfold approveOpen
  split
  · exact orphaned
  · split
    · exact applied _
    · exact orphaned

theorem approveLate_bounded (payment hire : Nat) (offline : Bool) (amount reference : Nat) :
    (approveLate payment hire offline amount reference s).state.notices.Bounded := by
  have applied : ∀ it p, (applyLate it p offline amount reference s).state.notices.Bounded := fun it p => by
    simp only [applyLate]
    exact updateSign_raise_bounded (by rw [State.applyTender_notices]; exact h) .paymentResult
  have orphaned : ∀ found, (orphanLate found payment offline amount reference s).state.notices.Bounded := fun found => by
    have hpay : ∀ y : Payment, State.notices { s with pay := y } = s.notices := fun _ => rfl
    unfold orphanLate
    split
    · split
      · dsimp only
        exact queueOrphan_bounded (by rw [hpay]; exact h) _
      · exact queueOrphan_bounded h _
    · exact h
  unfold approveLate
  split
  · exact orphaned _
  · split
    · exact applied _ _
    · exact orphaned _

theorem approval_bounded (payment hire : Nat) (offline : Bool) (amount reference : Nat) :
    (approval payment hire offline amount reference s).state.notices.Bounded := by
  unfold approval
  repeat' split
  · exact h
  · exact approveOpen_bounded h _ _ _ _
  · exact approveLate_bounded h _ _ _ _ _

theorem decline_bounded (payment hire : Nat) (declined : Bool) :
    (decline payment hire declined s).state.notices.Bounded := by
  unfold decline
  split
  · simp only [declineOpen, State.settleGates_notices, State.requestTone_notices]
    exact updateSign_raise_bounded (by rw [State.releaseParty_notices]; exact h) .paymentResult
  · exact h

theorem payResult_bounded (payment hire : Nat) (outcome : Byte) (amount reference : Nat) :
    (payResult payment hire outcome amount reference s).state.notices.Bounded := by
  unfold payResult
  repeat' split
  · exact h
  · exact h
  · exact approval_bounded h _ _ _ _ _
  · exact approval_bounded h _ _ _ _ _
  · exact decline_bounded h _ _ _
  · exact decline_bounded h _ _ _

theorem sessionExpiry_bounded : (sessionExpiry s).notices.Bounded := by
  unfold sessionExpiry
  split
  · exact h
  · simp only [State.settleGates_notices, State.requestTone_notices]
    exact updateSign_raise_bounded (by rw [State.releaseParty_notices]; exact h) .paymentExpired

theorem setIntercom_bounded (c : Intercom) : (s.setIntercom c).notices.Bounded := h

theorem setIntercomMode_bounded (mode : Byte) : (setIntercomMode mode s).state.notices.Bounded := by
  unfold setIntercomMode
  split
  · exact h
  · dsimp only
    split
    · exact h
    · rw [State.settleGates_notices]
      exact State.raiseIf_bounded (setIntercom_bounded h _) _ _

theorem talkKeyPress_bounded (side : TalkSide) : (talkKeyPress side s).notices.Bounded := by
  unfold talkKeyPress
  split
  · exact h
  · dsimp only
    split
    · exact h
    · rw [State.settleGates_notices]
      exact State.raiseIf_bounded (setIntercom_bounded h _) _ _
    · split
      · rw [State.settleGates_notices]
        exact State.raise_bounded (by rw [State.requestTone_notices]; exact setIntercom_bounded h _) _
      · exact h

theorem talkKeyRelease_bounded (side : TalkSide) : (talkKeyRelease side s).notices.Bounded := by
  unfold talkKeyRelease
  split
  · dsimp only
    split
    · rw [State.settleGates_notices]
      exact State.raise_bounded (setIntercom_bounded h _) _
    · exact h
  · exact h

theorem floorTimerExpiry_bounded : (floorTimerExpiry s).notices.Bounded := by
  unfold floorTimerExpiry
  split
  · rw [State.settleGates_notices]
    exact State.raise_bounded (setIntercom_bounded h _) _
  · exact h

theorem windowClose_bounded (sense : LampSense) : (windowClose sense s).notices.Bounded := by
  obtain ⟨-, -, -, -, -, -, -, -, -, hnotices⟩ := windowClose_parts s sense
  rw [hnotices]
  exact State.raiseIf_bounded h _ _

theorem afterStored_bounded (e : Entry) : (s.afterStored e).notices.Bounded := by
  unfold State.afterStored
  split
  · rw [State.updateSign_notices]; exact h
  · exact State.raise_bounded (by rw [State.updateSign_notices]; exact h) _
  · exact h
  · exact h
  · exact State.raise_bounded (u := { s with store := _ }) h _

theorem appendComplete_bounded : (appendComplete s).notices.Bounded := by
  obtain ⟨-, he⟩ | ⟨b, -, he⟩ := appendComplete_cases s <;> rw [he]
  · exact h
  · exact afterStored_bounded (s := { s with journal := s.journal.complete _ }) h _

theorem cutAt_bounded (cut : PowerCut) : (s.cutAt cut).notices.Bounded := by
  have stored : ∀ {e : Entry} {t : State}, s.storeHead = some (e, t) → t.notices.Bounded := fun ht => by
    obtain ⟨b, -, -, rfl⟩ := State.storeHead_eq ht
    exact h
  have first : ∀ (t : State) (e : Entry), t.notices.Bounded → (t.firstUpdate e).notices.Bounded := fun t e ht => by
    unfold State.firstUpdate
    split
    · exact afterStored_bounded ht e
    · exact afterStored_bounded ht e
    · exact ht
  have second : ∀ (t : State) (e : Entry), t.notices.Bounded → (t.secondUpdate e).notices.Bounded := fun t e ht => by
    unfold State.secondUpdate
    split
    · exact ht
    · exact ht
    · exact first t e ht
  unfold State.cutAt
  repeat' split
  all_goals first | exact h | exact first _ _ (stored ‹_›) | exact second _ _ (stored ‹_›)

theorem dropVolatile_bounded : s.dropVolatile.notices.Bounded :=
  ⟨h.1, fun p => by cases p <;> exact Nat.zero_le _⟩

theorem restore_bounded : s.restore.notices.Bounded := by
  have slot : ∀ (u : State) (i : Fin 4), u.notices.Bounded → (u.restoreSlot i).notices.Bounded := fun u i hu => by
    have hsame : (u.restoreSlot i).notices = u.notices := u.restoreSlot_frame i .notices (by decide)
    rw [hsame]
    exact hu
  have shift : ∀ u : State, u.notices.Bounded → u.restoreShift.notices.Bounded := fun u hu => by
    obtain ⟨-, he⟩ | ⟨_, _, -, -, -, he⟩ | ⟨-, -, _, he⟩ := u.restoreShift_cases <;> rw [he]
    · exact hu
    · exact State.raise_bounded (u := { u with shift := _ }) hu _
    · exact hu
  have count : ∀ u : State, u.notices.Bounded → u.countInterruption.notices.Bounded := fun u hu =>
    State.raise_bounded (u := { u with shift := _ }) hu _
  exact count _ (shift _ (slot _ 3 (slot _ 2 (slot _ 1 (slot _ 0 h)))))

end Bounded

theorem State.wake_notices (s : State) (levels : InputLevels) (backup : Backup) :
    (s.wake levels backup).notices = s.dropVolatile.notices := rfl

theorem State.firstSign_notices (s : State) : s.firstSign.notices = s.notices := rfl

theorem restart_bounded (levels : InputLevels) (backup : Backup) {s : State} (h : s.notices.Bounded) :
    (restart levels backup s).notices.Bounded := by
  rw [restart, State.firstSign_notices]
  exact restore_bounded (by rw [State.wake_notices]; exact dropVolatile_bounded h)

theorem bounded_readsOnly : ReadsOnly [.notices] (fun s => s.notices.Bounded) := fun s t h hs => by
  have hnotices : t.notices = s.notices := h .notices (by simp)
  show t.notices.Bounded
  rw [hnotices]
  exact hs

theorem exec_bounded {c : Instr} {s t : State} (hs : s.notices.Bounded) (h : exec c s = .next t) : t.notices.Bounded := by
  have req := @ReadsOnly.request _ _ bounded_readsOnly (by decide)
  have event := @event_keeps (fun u => u.notices.Bounded)
  have frame := @ReadsOnly.exec _ _ bounded_readsOnly c s t h
  cases c
  case calMark => exact req h (fun _ => calMark_bounded hs) hs
  case zoneReport => exact req h (fun _ => zoneReport_bounded hs _ _) hs
  case startHire => exact req h (fun _ => startHire_bounded hs _) hs
  case stopHire => exact req h (fun _ => stopHire_bounded hs _) hs
  case payOpen => exact req h (fun _ => payOpen_bounded hs _) hs
  case payResult => exact req h (fun _ => payResult_bounded hs _ _ _ _ _) hs
  case setIntercomMode => exact req h (fun _ => setIntercomMode_bounded hs _) hs
  case readNotices => exact req h (fun _ => readNotices_bounded hs _ _) hs
  case clearNotices => exact req h (fun _ => clearNotices_bounded hs _ _) hs
  case setNoticeEnable => exact req h (fun _ => setNoticeEnable_bounded hs _ _) hs
  case setRoute => exact req h (fun _ => setRoute_bounded hs _ _) hs
  case postMessage => exact req h (fun _ => postMessage_bounded hs _ _ _) hs
  case takeMessage => exact req h (fun _ => takeMessage_bounded hs _) hs
  case zoneWatchExpiry => exact event h hs fun _ _ => zoneWatchExpiry_bounded hs
  case sessionExpiry => exact event h hs fun _ _ => sessionExpiry_bounded hs
  case talkKeyPress => exact event h hs fun _ _ => talkKeyPress_bounded hs _
  case talkKeyRelease => exact event h hs fun _ _ => talkKeyRelease_bounded hs _
  case floorTimerExpiry => exact event h hs fun _ _ => floorTimerExpiry_bounded hs
  case windowClose => exact event h hs fun _ _ => windowClose_bounded hs _
  case appendComplete => exact event h hs fun _ _ => appendComplete_bounded hs
  case powerLoss cut => exact event h hs fun _ _ => dropVolatile_bounded (cutAt_bounded hs cut)
  case restart levels backup =>
    obtain rfl : restart levels backup s = t := by simpa [exec, execRestart] using h
    exact restart_bounded levels backup hs
  all_goals exact frame (by simp [touches]) hs

end Sys2Proof.Machine
end


section
/-! The bounds of the payment unit's recent-session list (R87) and of the intercom unit: its tone queues (R177), its floor
(R170, R173) and its talk-key inputs (R169). -/

namespace Sys2Proof.Machine

/-! ## The recent-session list (R87) -/

theorem Payment.close_recent {y : Payment} (h : y.recent.length ≤ 4) (x : Session) (cause : CloseCause) :
    (y.close x cause).recent.length ≤ 4 := by
  unfold Payment.close
  dsimp only
  exact pushRecent_length _ h

section Recent

variable {s : State} (h : s.pay.recent.length ≤ 4)

include h

theorem approveOpen_recent (x : Session) (offline : Bool) (amount reference : Nat) :
    (approveOpen x offline amount reference s).state.pay.recent.length ≤ 4 := by
  have applied : ∀ p, (applyOpen x p offline amount reference s).state.pay.recent.length ≤ 4 := fun p => by
    simp only [applyOpen, State.settleGates_pay, State.requestTone_pay, State.raise_pay, State.updateSign_pay,
      State.applyTender_pay]
    exact Payment.close_recent h x .result
  have orphaned : (orphanOpen x offline amount reference s).state.pay.recent.length ≤ 4 := by
    unfold orphanOpen
    split
    · simp only [State.settleGates_pay, State.requestTone_pay, State.raise_pay, State.updateSign_pay, State.releaseParty_pay,
        State.queueOrphan_pay]
      exact Payment.close_recent h x .result
    · exact h
  unfold approveOpen
  split
  · exact orphaned
  · split
    · exact applied _
    · exact orphaned

theorem markResult_recent (it : RecentSession) : (markResult s.pay.recent it).length ≤ 4 := by
  rw [markResult, List.length_map]
  exact h

theorem approveLate_recent (payment hire : Nat) (offline : Bool) (amount reference : Nat) :
    (approveLate payment hire offline amount reference s).state.pay.recent.length ≤ 4 := by
  have applied : ∀ it p, (applyLate it p offline amount reference s).state.pay.recent.length ≤ 4 := fun it p => by
    simp only [applyLate, State.raise_pay, State.updateSign_pay, State.applyTender_pay]
    exact markResult_recent h it
  have orphaned : ∀ found, (orphanLate found payment offline amount reference s).state.pay.recent.length ≤ 4 := fun found => by
    unfold orphanLate
    split
    · split
      · simp only [State.queueOrphan_pay]
        exact markResult_recent h _
      · simp only [State.queueOrphan_pay]
        exact h
    · exact h
  unfold approveLate
  split
  · exact orphaned _
  · split
    · exact applied _ _
    · exact orphaned _

theorem payResult_recent (payment hire : Nat) (outcome : Byte) (amount reference : Nat) :
    (payResult payment hire outcome amount reference s).state.pay.recent.length ≤ 4 := by
  have approves : ∀ offline, (approval payment hire offline amount reference s).state.pay.recent.length ≤ 4 := by
    intro offline
    unfold approval
    repeat' split
    · exact h
    · exact approveOpen_recent h _ _ _ _
    · exact approveLate_recent h _ _ _ _ _
  have declines : ∀ declined, (decline payment hire declined s).state.pay.recent.length ≤ 4 := by
    intro declined
    unfold decline
    split
    · simp only [declineOpen, State.settleGates_pay, State.requestTone_pay, State.raise_pay, State.updateSign_pay,
        State.releaseParty_pay]
      exact Payment.close_recent h _ .result
    · exact h
  unfold payResult
  repeat' split
  · exact h
  · exact h
  · exact approves _
  · exact approves _
  · exact declines _
  · exact declines _

theorem sessionExpiry_recent : (sessionExpiry s).pay.recent.length ≤ 4 := by
  unfold sessionExpiry
  split
  · exact h
  · simp only [State.settleGates_pay, State.requestTone_pay, State.raise_pay, State.updateSign_pay, State.releaseParty_pay]
    exact Payment.close_recent h _ .expired

theorem payOpen_recent (slot : Byte) : (payOpen slot s).state.pay.recent.length ≤ 4 := by
  have taken : ∀ i p, (payOpenTaken s i p).pay.recent.length ≤ 4 := fun i p => by
    simp only [payOpenTaken, State.updateSign_pay, State.raise_pay, State.setParty_pay]
    exact h
  unfold payOpen
  repeat' split
  all_goals first | exact h | exact taken _ _

theorem payTip_recent (payment hire tip : Nat) : (payTip payment hire tip s).state.pay.recent.length ≤ 4 := by
  unfold payTip
  repeat' split
  all_goals exact h

theorem pinState_recent (value : Byte) : (pinState value s).state.pay.recent.length ≤ 4 := by
  unfold pinState
  repeat' split
  all_goals exact h

end Recent

theorem recent_readsOnly : ReadsOnly [.pay] (fun s => s.pay.recent.length ≤ 4) := fun s t h hs => by
  have hpay : t.pay = s.pay := h .pay (by simp)
  show t.pay.recent.length ≤ 4
  rw [hpay]
  exact hs

theorem restart_pay (levels : InputLevels) (backup : Backup) (s : State) :
    (restart levels backup s).pay = s.pay.restarted :=
  (s.wake levels backup).restore_frame .pay (by decide)

theorem exec_recent {c : Instr} {s t : State} (hs : s.pay.recent.length ≤ 4) (h : exec c s = .next t) :
    t.pay.recent.length ≤ 4 := by
  have req := @ReadsOnly.request _ _ recent_readsOnly (by decide)
  have event := @event_keeps (fun u => u.pay.recent.length ≤ 4)
  have frame := @ReadsOnly.exec _ _ recent_readsOnly c s t h
  cases c
  case payOpen => exact req h (fun _ => payOpen_recent hs _) hs
  case payTip => exact req h (fun _ => payTip_recent hs _ _ _) hs
  case pinState => exact req h (fun _ => pinState_recent hs _) hs
  case setPinGuard => exact req h (fun _ => by unfold setPinGuard; split <;> exact hs) hs
  case payResult => exact req h (fun _ => payResult_recent hs _ _ _ _ _) hs
  case sessionExpiry => exact event h hs fun _ _ => sessionExpiry_recent hs
  case pinGuardExpiry => exact event h hs fun _ _ => by unfold pinGuardExpiry; split <;> exact hs
  case powerLoss => exact event h hs fun _ _ => Nat.zero_le _
  case restart levels backup =>
    obtain rfl : restart levels backup s = t := by simpa [exec, execRestart] using h
    rw [restart_pay]
    exact Nat.zero_le _
  all_goals exact frame (by simp [touches]) hs

/-! ## The intercom unit -/

/-- The tone queues within their places, the floor consistent, and talk-key inputs that wait for less than a limit. -/
structure Intercom.Bounded (limit : Nat) (c : Intercom) : Prop where
  speakers : ∀ side, (c.speakers.get side).waiting.length ≤ 4
  held : c.floor.isSome = true → c.mode = .halfDuplex
  timer : c.floorTimer.isSome = c.floor.isSome
  claim : ∀ x, c.claimant = some x → c.floor = some (otherSide x)
  pins : ∀ side, (c.keyPins.get side).Waits (c.keys.get side) limit

theorem Speaker.take_waiting {x : Speaker} (h : x.waiting.length ≤ 4) (t : Tone) : (x.take t).waiting.length ≤ 4 := by
  obtain ⟨-, he⟩ | ⟨-, -, he⟩ | ⟨-, -, hplace, he⟩ | ⟨-, -, -, he⟩ := x.take_cases t <;> rw [he]
  · exact h
  · exact h
  · rw [List.length_append]; exact hplace
  · exact h

theorem Speaker.frame_waiting {x : Speaker} (h : x.waiting.length ≤ 4) (l : AudioLine) :
    (x.frame l).waiting.length ≤ 4 := by
  have hended : x.endTone.waiting.length ≤ 4 := by
    unfold Speaker.endTone
    split
    · exact h
    · next hw => rw [hw] at h; exact Nat.le_of_succ_le h
  show x.advance.waiting.length ≤ 4
  unfold Speaker.advance
  split
  · exact hended
  · split <;> exact h

section Bounded

variable {limit : Nat} {c : Intercom} (h : c.Bounded limit)

include h

theorem Intercom.Bounded.paths (x : PerPath AudioLine) : ({ c with paths := x } : Intercom).Bounded limit :=
  ⟨h.speakers, h.held, h.timer, h.claim, h.pins⟩

theorem Intercom.Bounded.codecs (x : PerCodec Codec) : ({ c with codecs := x } : Intercom).Bounded limit :=
  ⟨h.speakers, h.held, h.timer, h.claim, h.pins⟩

theorem Intercom.Bounded.setSpeaker {side : CodecSide} {x : Speaker} (hx : x.waiting.length ≤ 4) :
    ({ c with speakers := c.speakers.set side x } : Intercom).Bounded limit := by
  refine ⟨fun other => ?_, h.held, h.timer, h.claim, h.pins⟩
  by_cases ho : other = side
  · subst ho; simpa using hx
  · simpa [PerCodec.get_set_other _ _ _ _ ho] using h.speakers other

theorem Intercom.Bounded.take (side : CodecSide) (t : Tone) :
    ({ c with speakers := c.speakers.set side ((c.speakers.get side).take t) } : Intercom).Bounded limit :=
  h.setSpeaker (Speaker.take_waiting (h.speakers side) t)

theorem Intercom.Bounded.frame (side : CodecSide) (mic : BitVec 16) : (c.frame side mic).Bounded limit := by
  have hspeaker := h.setSpeaker (side := side) (Speaker.frame_waiting (h.speakers side) (c.paths.get (pathTo side)))
  exact (hspeaker.codecs _).paths _

theorem Intercom.Bounded.dropFloor : c.dropFloor.Bounded limit := ⟨h.speakers, nofun, rfl, nofun, h.pins⟩

/-- A floor granted in HALF_DUPLEX to a side, with the other one or none as its claimant. -/
theorem Intercom.Bounded.grant (hmode : c.mode = .halfDuplex) (side : TalkSide) {claimant : Option TalkSide}
    (hclaim : ∀ x, claimant = some x → side = otherSide x) : (c.grant side claimant).Bounded limit :=
  ⟨h.speakers, fun _ => hmode, rfl, fun x hx => congrArg some (hclaim x hx), h.pins⟩

theorem Intercom.Bounded.enterMode (m : IntercomMode) : (c.enterMode m).Bounded limit := by
  unfold Intercom.enterMode
  split
  · exact ⟨h.speakers, nofun, rfl, nofun, h.pins⟩
  · next hmode =>
    have hnone : c.floor.isSome = false := Bool.eq_false_iff.mpr fun hf => hmode (h.held hf)
    exact ⟨h.speakers, fun hf => absurd hf (by simp [hnone]), h.timer, h.claim, h.pins⟩

theorem Intercom.Bounded.setKey (hpos : 0 < limit) (side : TalkSide) (pressed : Bool) :
    (c.setKey side pressed).Bounded limit := by
  refine ⟨h.speakers, h.held, h.timer, h.claim, fun other => ?_⟩
  by_cases ho : other = side
  · subst ho
    simpa [Intercom.setKey] using Pin.at_waits _ _ _ hpos
  · simpa [Intercom.setKey, PerKey.get_set_other _ _ _ _ ho] using h.pins other

theorem Intercom.Bounded.press (hmode : c.mode = .halfDuplex) (side : TalkSide) : (c.press side).1.Bounded limit := by
  unfold Intercom.press
  split
  · exact h.grant hmode side nofun
  · next holder hfloor =>
    split
    · exact h
    · next hside =>
      split
      · refine h.grant hmode _ fun x hx => ?_
        unfold Intercom.overridden at hx
        split at hx
        · cases hx; rfl
        · cases hx
      · refine ⟨h.speakers, h.held, h.timer, fun x hx => ?_, h.pins⟩
        obtain rfl : side = x := by simpa using hx
        rw [show ({ c with claimant := some side } : Intercom).floor = some holder from hfloor]
        cases holder <;> cases side <;> first | rfl | exact absurd rfl hside

theorem Intercom.Bounded.release : c.release.Bounded limit := by
  unfold Intercom.release
  split
  · next side hheir =>
    have hclaimed : c.claimant.isSome = true := by
      unfold Intercom.heir at hheir
      split at hheir
      · next hc => rw [hc]; rfl
      · cases hheir
    obtain ⟨x, hx⟩ := Option.isSome_iff_exists.mp hclaimed
    exact h.grant (h.held (by rw [h.claim x hx]; rfl)) side nofun
  · exact h.dropFloor

/-- A millisecond more lets a talk key's input wait up to its debounce time. -/
theorem Intercom.Bounded.tick : c.tick.Bounded (limit + 1) :=
  ⟨h.speakers, h.held, (Option.isSome_map ..).trans h.timer, h.claim, fun side => by
    cases side
    · exact Pin.tick_waits (h.pins .driver)
    · exact Pin.tick_waits (h.pins .rear)⟩

end Bounded

theorem Intercom.restarted_bounded {limit : Nat} (hpos : 0 < limit) (c : Intercom) : c.restarted.Bounded limit := by
  refine ⟨fun side => ?_, nofun, rfl, nofun, fun side => ?_⟩ <;> cases side
  · exact Nat.zero_le _
  · exact Nat.zero_le _
  · exact Pin.at_waits _ _ _ hpos
  · exact Pin.at_waits _ _ _ hpos

section Commands

variable {limit : Nat} (hpos : 0 < limit) {s : State} (h : s.intercom.Bounded limit)

include h

theorem State.settleGates_bounded : s.settleGates.intercom.Bounded limit := h.paths _

theorem State.requestTone_bounded (side : CodecSide) (t : Tone) : (s.requestTone side t).intercom.Bounded limit := h.take side t

theorem startHire_intercom (pin : Byte) : (startHire pin s).state.intercom.Bounded limit := by
  have taken : ∀ i hire pin, (startHireTaken s i hire pin).intercom.Bounded limit := by
    intro i hire pin
    have toned : ∀ u : State, u.intercom = s.intercom →
        (((u.raise .hireStarted).requestTone .front .start).requestTone .rear .start).settleGates.intercom.Bounded limit :=
      fun u hu => State.settleGates_bounded (State.requestTone_bounded (State.requestTone_bounded
        (by rw [State.raise_intercom, hu]; exact h) _ _) _ _)
    unfold startHireTaken
    dsimp only
    split
    · exact toned _ (by simp)
    · exact toned _ (by simp)
  unfold startHire
  repeat' split
  all_goals first | exact h | exact taken _ _ _

theorem pinState_intercom (value : Byte) : (pinState value s).state.intercom.Bounded limit := by
  have paid : ∀ y, (State.settleGates { s with pay := y }).intercom.Bounded limit := fun y => State.settleGates_bounded h
  unfold pinState
  repeat' split
  all_goals first | exact h | exact paid _

theorem pinGuardExpiry_intercom : (pinGuardExpiry s).intercom.Bounded limit := by
  unfold pinGuardExpiry
  split
  · exact State.settleGates_bounded h
  · exact h

/-- A result's tone, and the gates (R98 to R100). -/
theorem toned_intercom {u : State} (hu : u.intercom = s.intercom) (src : NoticeSource) (t : Tone) :
    ((u.raise src).requestTone .rear t).settleGates.intercom.Bounded limit :=
  State.settleGates_bounded (State.requestTone_bounded (by rw [State.raise_intercom, hu]; exact h) _ _)

theorem approveOpen_intercom (x : Session) (offline : Bool) (amount reference : Nat) :
    (approveOpen x offline amount reference s).state.intercom.Bounded limit := by
  have applied : ∀ p, (applyOpen x p offline amount reference s).state.intercom.Bounded limit := fun p =>
    toned_intercom h (by simp) .paymentResult .approved
  have orphaned : (orphanOpen x offline amount reference s).state.intercom.Bounded limit := by
    unfold orphanOpen
    split
    · exact toned_intercom h (by simp) .paymentResult .declined
    · exact h
  unfold approveOpen
  split
  · exact orphaned
  · split
    · exact applied _
    · exact orphaned

theorem approveLate_intercom (payment hire : Nat) (offline : Bool) (amount reference : Nat) :
    (approveLate payment hire offline amount reference s).state.intercom.Bounded limit := by
  have same : ∀ u : State, u.intercom = s.intercom → u.intercom.Bounded limit := fun u hu => hu ▸ h
  have orphaned : ∀ found, (orphanLate found payment offline amount reference s).state.intercom.Bounded limit := fun found => by
    unfold orphanLate
    repeat' split
    all_goals exact same _ (by simp [refuse])
  unfold approveLate
  split
  · exact orphaned _
  · split
    · exact same _ (by simp [applyLate])
    · exact orphaned _

theorem payResult_intercom (payment hire : Nat) (outcome : Byte) (amount reference : Nat) :
    (payResult payment hire outcome amount reference s).state.intercom.Bounded limit := by
  have approves : ∀ offline, (approval payment hire offline amount reference s).state.intercom.Bounded limit := by
    intro offline
    unfold approval
    repeat' split
    · exact h
    · exact approveOpen_intercom h _ _ _ _
    · exact approveLate_intercom h _ _ _ _ _
  have declines : ∀ declined, (decline payment hire declined s).state.intercom.Bounded limit := by
    intro declined
    unfold decline
    split
    · exact toned_intercom h (by simp) .paymentResult .declined
    · exact h
  unfold payResult
  repeat' split
  · exact h
  · exact h
  · exact approves _
  · exact approves _
  · exact declines _
  · exact declines _

theorem sessionExpiry_intercom : (sessionExpiry s).intercom.Bounded limit := by
  unfold sessionExpiry
  split
  · exact h
  · exact State.settleGates_bounded (State.requestTone_bounded (State.requestTone_bounded
      (by simp only [State.raise_intercom, State.updateSign_intercom, State.releaseParty_intercom]; exact h) _ _) _ _)

theorem setPathGain_intercom (path : Byte) (gain delay : Nat) : (setPathGain path gain delay s).state.intercom.Bounded limit := by
  unfold setPathGain
  repeat' split
  all_goals first | exact h | exact h.paths _

theorem setIntercomMode_intercom (mode : Byte) : (setIntercomMode mode s).state.intercom.Bounded limit := by
  unfold setIntercomMode
  split
  · exact h
  · dsimp only
    split
    · exact h
    · exact State.settleGates_bounded (by rw [State.raiseIf_intercom]; exact h.enterMode _)

theorem setIntercomMute_intercom (mute privacy : Byte) : (setIntercomMute mute privacy s).state.intercom.Bounded limit := by
  unfold setIntercomMute
  split
  · exact State.settleGates_bounded (s := s.setIntercom _) ⟨h.speakers, h.held, h.timer, h.claim, h.pins⟩
  · exact h

theorem setTalkOverride_intercom (value : Byte) : (setTalkOverride value s).state.intercom.Bounded limit := by
  unfold setTalkOverride
  split
  · exact h
  · exact ⟨h.speakers, h.held, h.timer, h.claim, h.pins⟩

theorem playTone_intercom (tone speaker : Byte) : (playTone tone speaker s).state.intercom.Bounded limit := by
  unfold playTone
  split
  · dsimp only
    split <;> exact State.settleGates_bounded (State.requestTone_bounded h _ _)
  · exact h

theorem codecFrame_intercom (side : CodecSide) (mic : BitVec 16) : (codecFrame side mic s).intercom.Bounded limit := by
  unfold codecFrame
  split
  · exact State.settleGates_bounded (s := s.setIntercom _) (h.frame side mic)
  · exact h.frame side mic

theorem toneEnd_intercom (side : CodecSide) (mic : BitVec 16) : (toneEnd side mic s).intercom.Bounded limit := by
  unfold toneEnd
  split
  · exact codecFrame_intercom h side mic
  · exact h

theorem floorTimerExpiry_intercom : (floorTimerExpiry s).intercom.Bounded limit := by
  unfold floorTimerExpiry
  split
  · exact State.settleGates_bounded (by rw [State.raise_intercom]; exact h.release)
  · exact h

theorem windowClose_intercom (sense : LampSense) : (windowClose sense s).intercom.Bounded limit := by
  have hactivated : (s.closed sense).tryActivate.intercom = (s.closed sense).intercom :=
    (s.closed sense).tryActivate_keeps (c := .intercom) (by decide) (by decide)
  unfold windowClose
  exact State.settleGates_bounded (by rw [State.raiseIf_intercom, hactivated]; exact h.codecs _)

include hpos

theorem talkKeyPress_intercom (side : TalkSide) : (talkKeyPress side s).intercom.Bounded limit := by
  have hkey := h.setKey hpos side true
  unfold talkKeyPress
  split
  · exact h
  · dsimp only
    split
    · exact hkey
    · next hmode => exact State.settleGates_bounded (by rw [State.raiseIf_intercom]; exact hkey.press hmode side)
    · split
      · exact State.settleGates_bounded (by rw [State.raise_intercom]; exact State.requestTone_bounded hkey _ _)
      · exact hkey

theorem talkKeyRelease_intercom (side : TalkSide) : (talkKeyRelease side s).intercom.Bounded limit := by
  have hkey := h.setKey hpos side false
  unfold talkKeyRelease
  split
  · dsimp only
    split
    · exact State.settleGates_bounded (by rw [State.raise_intercom]; exact hkey.release)
    · exact hkey
  · exact h

end Commands

theorem State.wake_intercom (s : State) (levels : InputLevels) (backup : Backup) : (s.wake levels backup).intercom =
    { s.intercom.restarted with
      keyPins := ⟨s.intercom.restarted.keyPins.driver.at levels.driverKey, s.intercom.restarted.keyPins.rear.at levels.rearKey⟩ } :=
  rfl

theorem restart_intercom (levels : InputLevels) (backup : Backup) (s : State) :
    (restart levels backup s).intercom = (s.wake levels backup).intercom :=
  (s.wake levels backup).restore_frame .intercom (by decide)

theorem intercomBounded_readsOnly (limit : Nat) : ReadsOnly [.intercom] (fun s => s.intercom.Bounded limit) := fun s t h hs => by
  have hintercom : t.intercom = s.intercom := h .intercom (by simp)
  show t.intercom.Bounded limit
  rw [hintercom]
  exact hs

theorem exec_intercomBounded {limit : Nat} (hpos : 0 < limit) {c : Instr} {s t : State} (hs : s.intercom.Bounded limit)
    (h : exec c s = .next t) : t.intercom.Bounded limit := by
  have req := @ReadsOnly.request _ _ (intercomBounded_readsOnly limit) (by decide)
  have event := @event_keeps (fun u => u.intercom.Bounded limit)
  have frame := @ReadsOnly.exec _ _ (intercomBounded_readsOnly limit) c s t h
  cases c
  case startHire => exact req h (fun _ => startHire_intercom hs _) hs
  case pinState => exact req h (fun _ => pinState_intercom hs _) hs
  case payResult => exact req h (fun _ => payResult_intercom hs _ _ _ _ _) hs
  case setPathGain => exact req h (fun _ => setPathGain_intercom hs _ _ _) hs
  case setIntercomMode => exact req h (fun _ => setIntercomMode_intercom hs _) hs
  case setIntercomMute => exact req h (fun _ => setIntercomMute_intercom hs _ _) hs
  case setTalkOverride => exact req h (fun _ => setTalkOverride_intercom hs _) hs
  case playTone => exact req h (fun _ => playTone_intercom hs _ _) hs
  case windowClose => exact event h hs fun _ _ => windowClose_intercom hs _
  case sessionExpiry => exact event h hs fun _ _ => sessionExpiry_intercom hs
  case pinGuardExpiry => exact event h hs fun _ _ => pinGuardExpiry_intercom hs
  case releaseTimerExpiry => exact event h hs fun _ _ => hs.paths _
  case talkKeyPress => exact event h hs fun _ _ => talkKeyPress_intercom hpos hs _
  case talkKeyRelease => exact event h hs fun _ _ => talkKeyRelease_intercom hpos hs _
  case floorTimerExpiry => exact event h hs fun _ _ => floorTimerExpiry_intercom hs
  case codecFrame => exact event h hs fun _ _ => codecFrame_intercom hs _ _
  case toneEnd => exact event h hs fun _ _ => toneEnd_intercom hs _ _
  case powerLoss cut => exact event h hs fun _ _ => (s.cutAt cut).intercom.restarted_bounded hpos
  case restart levels backup =>
    obtain rfl : restart levels backup s = t := by simpa [exec, execRestart] using h
    have hrestarted := s.intercom.restarted_bounded hpos
    rw [restart_intercom, State.wake_intercom]
    refine ⟨hrestarted.speakers, hrestarted.held, hrestarted.timer, hrestarted.claim, fun side => ?_⟩
    cases side <;> exact Pin.at_waits _ _ _ hpos
  all_goals exact frame (by simp [touches]) hs

end Sys2Proof.Machine
end


section
/-! The moves of the sign unit: what a command of a powered part can do to it, and that every command does some of these. -/

namespace Sys2Proof.Machine

/-! ## Moves -/

/-- Everything that a command of a powered part, other than a loss of power, can do to the sign unit. -/
inductive Sign.Move : Sign → Sign → Prop
  /-- The sign enters a state (R147). -/
  | enter (g : Sign) (st : SignState) : Sign.Move g (g.enter st)
  /-- A lamp test ends (R153). -/
  | endTest (g : Sign) : Sign.Move g g.endTest
  /-- A lamp test is cancelled as the sign enters a state (R154). -/
  | cancel (g : Sign) (st : SignState) : Sign.Move g (g.dropTest.enter st).settleLamps
  /-- A window closes (R149, R155). -/
  | close (g : Sign) (period : Period) (sense : LampSense) : Sign.Move g (g.close period sense)
  /-- SET_BRIGHTNESS (R150). -/
  | levels (g : Sign) (day night : Nat) (hday : day ≤ 100) (hnight : night ≤ 100) : Sign.Move g (g.setLevels day night)
  /-- LAMP_TEST (R151). -/
  | force (g : Sign) (a b c d : Override) : Sign.Move g (g.force a b c d)
  /-- LAMP_CLEAR (R157). -/
  | clear (g : Sign) : Sign.Move g g.clearFaults
  /-- A phase ends (R148). -/
  | phase (g : Sign) (n : Nat) : Sign.Move g (Sign.settleLamps { g with phase := n })

/-- Some moves of the sign unit. -/
abbrev Sign.Moves : Sign → Sign → Prop := Reach Sign.Move

theorem Sign.Moves.of_move {g h : Sign} (m : Sign.Move g h) : g.Moves h := .single m

theorem Sign.Moves.of_eq {g h : Sign} (e : h = g) : g.Moves h := e ▸ .refl

/-- A sign derived afresh (R147). -/
theorem State.updateSign_moves (s : State) : s.sign.Moves s.updateSign.sign := by
  unfold State.updateSign
  split
  · exact .refl
  · exact .of_move (.enter _ _)

/-- The update of a state with the same sign. -/
theorem State.updateSign_moves_of {s u : State} (h : u.sign = s.sign) : s.sign.Moves u.updateSign.sign :=
  h ▸ u.updateSign_moves

theorem State.cancelTest_moves (s : State) : s.sign.Moves s.cancelTest.sign := by
  unfold State.cancelTest State.settleSign State.updateSign
  split
  · exact .of_move (.endTest _)
  · exact .of_move (.cancel _ _)

/-! ## The commands -/

section Commands

variable {s : State}

theorem startHire_sign (pin : Byte) : s.sign.Moves (startHire pin s).state.sign := by
  have taken : ∀ i hire pin, s.sign.Moves (startHireTaken s i hire pin).sign := by
    intro i hire pin
    have henrolled : State.sign { s with table := s.table.enroll i (newParty s.store hire pin) } = s.sign := rfl
    unfold startHireTaken
    simp only [State.settleGates_sign, State.requestTone_sign, State.raise_sign]
    split
    · exact henrolled ▸ State.cancelTest_moves _
    · exact State.updateSign_moves_of henrolled
  unfold startHire
  repeat' split
  all_goals first | exact .refl | exact taken _ _ _

theorem stopHire_sign (slot : Byte) : s.sign.Moves (stopHire slot s).state.sign := by
  unfold stopHire
  repeat' split
  all_goals first | exact .refl | exact State.updateSign_moves_of rfl

theorem resumeHire_sign (slot : Byte) : s.sign.Moves (resumeHire slot s).state.sign := by
  unfold resumeHire
  repeat' split
  all_goals first | exact .refl | exact State.updateSign_moves_of rfl

theorem setDuty_sign (v : Byte) : s.sign.Moves (setDuty v s).state.sign := by
  unfold setDuty
  split
  · exact .refl
  · exact State.updateSign_moves_of rfl
  · exact State.updateSign_moves_of rfl

theorem setOnCall_sign (v : Byte) : s.sign.Moves (setOnCall v s).state.sign := by
  unfold setOnCall
  repeat' split
  all_goals first | exact .refl | exact State.updateSign_moves_of rfl

theorem setSeatLimit_sign (n : Nat) : s.sign.Moves (setSeatLimit n s).state.sign := by
  unfold setSeatLimit
  repeat' split
  all_goals first | exact .refl | exact State.updateSign_moves_of rfl

theorem payOpen_sign (slot : Byte) : s.sign.Moves (payOpen slot s).state.sign := by
  unfold payOpen payOpenTaken
  repeat' split
  all_goals first | exact .refl | exact State.updateSign_moves_of rfl

/-- A result's notice and tone come after the sign (R98 to R100). -/
theorem State.toned_sign {u : State} (h : u.sign = s.sign) (src : NoticeSource) (t : Tone) :
    s.sign.Moves ((u.updateSign.raise src).requestTone .rear t).settleGates.sign :=
  State.updateSign_moves_of h

theorem approveOpen_sign (x : Session) (offline : Bool) (amount reference : Nat) :
    s.sign.Moves (approveOpen x offline amount reference s).state.sign := by
  have applied : ∀ p, s.sign.Moves (applyOpen x p offline amount reference s).state.sign := fun p =>
    State.toned_sign (by rw [State.applyTender_sign]) .paymentResult .approved
  have orphaned : s.sign.Moves (orphanOpen x offline amount reference s).state.sign := by
    unfold orphanOpen
    split
    · exact State.toned_sign (by rw [State.releaseParty_sign]; rfl) .paymentResult .declined
    · exact .refl
  unfold approveOpen
  split
  · exact orphaned
  · split
    · exact applied _
    · exact orphaned

theorem approveLate_sign (payment hire : Nat) (offline : Bool) (amount reference : Nat) :
    s.sign.Moves (approveLate payment hire offline amount reference s).state.sign := by
  have orphaned : ∀ found, s.sign.Moves (orphanLate found payment offline amount reference s).state.sign := fun found => by
    unfold orphanLate
    repeat' split
    all_goals exact .of_eq (by simp [refuse])
  unfold approveLate
  split
  · exact orphaned _
  · split
    · simp only [applyLate, State.raise_sign]
      exact State.updateSign_moves_of (by rw [State.applyTender_sign])
    · exact orphaned _

theorem payResult_sign (payment hire : Nat) (outcome : Byte) (amount reference : Nat) :
    s.sign.Moves (payResult payment hire outcome amount reference s).state.sign := by
  have approves : ∀ offline, s.sign.Moves (approval payment hire offline amount reference s).state.sign := by
    intro offline
    unfold approval
    repeat' split
    · exact .refl
    · exact approveOpen_sign _ _ _ _
    · exact approveLate_sign _ _ _ _ _
  have declines : ∀ declined, s.sign.Moves (decline payment hire declined s).state.sign := by
    intro declined
    unfold decline
    split
    · exact State.toned_sign (by rw [State.releaseParty_sign]) .paymentResult .declined
    · exact .refl
  unfold payResult
  repeat' split
  · exact .refl
  · exact .refl
  · exact approves _
  · exact approves _
  · exact declines _
  · exact declines _

theorem cashSettle_sign (slot : Byte) (amount : Nat) : s.sign.Moves (cashSettle slot amount s).state.sign := by
  have taken : ∀ i p, s.sign.Moves (cashTaken i p amount s).state.sign := fun i p => by
    unfold cashTaken
    exact State.updateSign_moves_of (by split <;> simp)
  unfold cashSettle
  repeat' split
  all_goals first | exact .refl | exact taken _ _

theorem shiftOpen_sign (driver : Nat) : s.sign.Moves (shiftOpen driver s).state.sign := by
  unfold shiftOpen
  repeat' split
  all_goals first | exact .refl | exact State.updateSign_moves_of rfl

theorem shiftClose_sign : s.sign.Moves (shiftClose s).state.sign := by
  unfold shiftClose
  repeat' split
  all_goals first | exact .refl | exact State.updateSign_moves_of rfl

theorem setBrightness_sign (day night : Nat) : s.sign.Moves (setBrightness day night s).state.sign := by
  unfold setBrightness
  split
  · exact .refl
  · next hrange => exact .of_move (.levels _ _ _ (by omega) (by omega))

theorem lampTest_sign (a b c d : Byte) : s.sign.Moves (lampTest a b c d s).state.sign := by
  unfold lampTest
  repeat' split
  all_goals first | exact .refl | exact .of_move (.force _ _ _ _ _)

theorem lampPhaseChange_sign : s.sign.Moves (lampPhaseChange s).sign := by
  unfold lampPhaseChange
  split
  · exact .of_move (.phase _ _)
  · exact .refl

theorem testTimerExpiry_sign : s.sign.Moves (testTimerExpiry s).sign := by
  unfold testTimerExpiry
  split
  · exact .of_move (.endTest _)
  · exact .refl

theorem sessionExpiry_sign : s.sign.Moves (sessionExpiry s).sign := by
  unfold sessionExpiry
  split
  · exact .refl
  · simp only [State.settleGates_sign, State.requestTone_sign, State.raise_sign]
    exact State.updateSign_moves_of (by rw [State.releaseParty_sign])

theorem afterStored_sign (e : Entry) : s.sign.Moves (s.afterStored e).sign := by
  unfold State.afterStored
  split
  · exact State.updateSign_moves_of rfl
  · exact State.updateSign_moves_of rfl
  · exact .refl
  · exact .refl
  · exact .refl

theorem appendComplete_sign : s.sign.Moves (appendComplete s).sign := by
  obtain ⟨-, he⟩ | ⟨b, -, he⟩ := appendComplete_cases s
  · exact .of_eq (congrArg State.sign he)
  · rw [he]
    exact afterStored_sign (s := { s with journal := s.journal.complete _ }) _

end Commands

/-- Every command but a loss of power and a restart moves the sign by its own rule's moves. -/
theorem exec_signMoves {c : Instr} {s t : State} (h : exec c s = .next t) (hloss : ∀ cut, c ≠ .powerLoss cut)
    (hrestart : ∀ l b, c ≠ .restart l b) : s.sign.Moves t.sign := by
  have moves_readsOnly : ReadsOnly [.sign] (fun u => s.sign.Moves u.sign) := fun u v h hu => by
    have hsign : v.sign = u.sign := h .sign (by simp)
    show s.sign.Moves v.sign
    rw [hsign]
    exact hu
  have req := @ReadsOnly.request _ _ moves_readsOnly (by decide)
  have event := @event_keeps (fun u => s.sign.Moves u.sign)
  have frame := @ReadsOnly.exec _ _ moves_readsOnly c s t h
  cases c
  case startHire => exact req h (fun _ => startHire_sign _) .refl
  case stopHire => exact req h (fun _ => stopHire_sign _) .refl
  case resumeHire => exact req h (fun _ => resumeHire_sign _) .refl
  case setDuty => exact req h (fun _ => setDuty_sign _) .refl
  case setOnCall => exact req h (fun _ => setOnCall_sign _) .refl
  case setSeatLimit => exact req h (fun _ => setSeatLimit_sign _) .refl
  case payOpen => exact req h (fun _ => payOpen_sign _) .refl
  case payResult => exact req h (fun _ => payResult_sign _ _ _ _ _) .refl
  case cashSettle => exact req h (fun _ => cashSettle_sign _ _) .refl
  case shiftOpen => exact req h (fun _ => shiftOpen_sign _) .refl
  case shiftClose => exact req h (fun _ => shiftClose_sign) .refl
  case setBrightness => exact req h (fun _ => setBrightness_sign _ _) .refl
  case lampTest => exact req h (fun _ => lampTest_sign _ _ _ _) .refl
  case lampClear => exact req h (fun _ => .of_move (.clear _)) .refl
  case lampPhaseChange => exact event h .refl fun _ _ => lampPhaseChange_sign
  case testTimerExpiry => exact event h .refl fun _ _ => testTimerExpiry_sign
  case sessionExpiry => exact event h .refl fun _ _ => sessionExpiry_sign
  case appendComplete => exact event h .refl fun _ _ => appendComplete_sign
  case windowClose sense =>
    exact event h .refl fun _ _ => by
      obtain ⟨-, -, -, hsign, -⟩ := windowClose_parts s sense
      rw [hsign]
      exact .of_move (.close _ _ _)
  case powerLoss cut => exact absurd rfl (hloss cut)
  case restart levels backup => exact absurd rfl (hrestart levels backup)
  all_goals exact frame (by simp [touches]) .refl

/-! ## The loss of power and the restart -/

/-- What a cut completion leaves alone (R121). -/
theorem State.cutAt_frame (s : State) (cut : PowerCut) :
    ChangesOnly [.meas, .store, .table, .journal, .shift, .notices] s (s.cutAt cut) := by
  have stored : ∀ {e : Entry} {t : State}, s.storeHead = some (e, t) →
      ChangesOnly [.meas, .store, .table, .journal, .shift, .notices] s t := fun ht => by
    obtain ⟨b, -, -, rfl⟩ := State.storeHead_eq ht
    intro d hd
    cases d <;> first | rfl | simp at hd
  have first : ∀ (t : State) (e : Entry),
      ChangesOnly [.meas, .store, .table, .journal, .shift, .notices] t (t.firstUpdate e) := fun t e => by
    unfold State.firstUpdate
    split
    · next hb => simp only [State.afterStored, hb]; intro d hd; cases d <;> first | rfl | simp at hd
    · next hb => simp only [State.afterStored, hb]; intro d hd; cases d <;> first | rfl | simp at hd
    · exact .same _ _
  have second : ∀ (t : State) (e : Entry),
      ChangesOnly [.meas, .store, .table, .journal, .shift, .notices] t (t.secondUpdate e) := fun t e => by
    unfold State.secondUpdate
    split
    · intro d hd; cases d <;> first | rfl | simp at hd
    · intro d hd; cases d <;> first | rfl | simp at hd
    · exact first t e
  unfold State.cutAt
  split
  · exact .same _ _
  · split
    · exact .same _ _
    · exact (stored ‹_›).trans (first _ _)
  · split
    · exact .same _ _
    · exact (stored ‹_›).trans (second _ _)

theorem powerLoss_sign (cut : PowerCut) (s : State) : (powerLoss cut s).sign = s.sign.restarted := by
  have hcut : (s.cutAt cut).sign = s.sign := s.cutAt_frame cut .sign (by decide)
  show (s.cutAt cut).sign.restarted = s.sign.restarted
  rw [hcut]

theorem State.firstSign_sign (s : State) : s.firstSign.sign = Sign.settleLamps { s.sign with
    state := s.deriveSign, phase := 0, period := s.store.period, level := s.sign.levelFor s.store.period } := rfl

/-- The sign after a restart (R158). -/
theorem restart_sign (levels : InputLevels) (backup : Backup) (s : State) :
    ∃ state period, (restart levels backup s).sign = Sign.settleLamps { s.sign.restarted with
      state := state, phase := 0, period := period, level := s.sign.restarted.levelFor period } := by
  have hrestore : (s.wake levels backup).restore.sign = s.sign.restarted := (s.wake levels backup).restore_frame .sign (by decide)
  rw [restart, State.firstSign_sign, hrestore]
  exact ⟨_, _, rfl⟩

end Sys2Proof.Machine
end


section
/-! The bounds of the sign unit (R149, R150, R155), and every unit's bounds across a step. -/

namespace Sys2Proof.Machine

/-! ## The sign unit -/

/-- A dark-sample count of 3 has its latch set (R156). -/
def Lamp.Latches (l : Lamp) : Prop := l.dark ≤ 3 ∧ (l.dark = 3 → l.latch = true)

/-- Lamps that latch at three, legible levels, and the level in use the one of the period in use. -/
structure Sign.Bounded (g : Sign) : Prop where
  lamps : ∀ i : Fin 4, (g.lamps[i]).Latches
  day : 40 ≤ g.dayLevel ∧ g.dayLevel ≤ 100
  night : 40 ≤ g.nightLevel ∧ g.nightLevel ≤ 100
  level : g.level = g.levelFor g.period

theorem State.signBounded_iff (s : State) : s.LampsLatchAtThree ∧ s.LevelsAreLegal ↔ s.sign.Bounded :=
  ⟨fun ⟨hlamps, hday, hday', hnight, hnight', hlevel⟩ => ⟨hlamps, ⟨hday, hday'⟩, ⟨hnight, hnight'⟩, hlevel⟩,
    fun ⟨hlamps, ⟨hday, hday'⟩, ⟨hnight, hnight'⟩, hlevel⟩ => ⟨hlamps, hday, hday', hnight, hnight', hlevel⟩⟩

theorem Lamp.sample_latches {l : Lamp} (h : l.Latches) (lit present : Bool) : (l.sample lit present).Latches := by
  obtain ⟨hdark, hlatch⟩ := h
  unfold Lamp.sample
  split
  · split
    · exact ⟨Nat.zero_le _, nofun⟩
    · refine ⟨Nat.min_le_left _ _, fun hthree => ?_⟩
      have htwo : 2 ≤ l.dark := by
        have : min 3 (l.dark + 1) = 3 := hthree
        omega
      simp [htwo]
  · exact ⟨hdark, hlatch⟩

section Bounded

variable {g : Sign} (h : g.Bounded)

include h

/-- Lamps with their counts and latches unchanged, under the same levels. -/
theorem Sign.Bounded.lampsOnly {g' : Sign} (hlamps : ∀ i : Fin 4, (g'.lamps[i]).dark = (g.lamps[i]).dark ∧
    (g'.lamps[i]).latch = (g.lamps[i]).latch) (hday : g'.dayLevel = g.dayLevel) (hnight : g'.nightLevel = g.nightLevel)
    (hlevel : g'.level = g.level) (hperiod : g'.period = g.period) : g'.Bounded := by
  refine ⟨fun i => ?_, hday ▸ h.day, hnight ▸ h.night, ?_⟩
  · obtain ⟨hdark, hlatch⟩ := hlamps i
    unfold Lamp.Latches
    rw [hdark, hlatch]
    exact h.lamps i
  · rw [hlevel, hperiod, h.level]
    unfold Sign.levelFor
    rw [hday, hnight]

theorem Sign.Bounded.settleLamps : g.settleLamps.Bounded :=
  h.lampsOnly (fun i => by rw [Sign.settleLamps_lamp]; exact ⟨Lamp.settle_dark _ _ _, Lamp.settle_latch _ _ _⟩) rfl rfl rfl rfl

theorem Sign.Bounded.enter (st : SignState) : (g.enter st).Bounded :=
  h.lampsOnly (fun i => by rw [Sign.enter_lamp]; exact ⟨rfl, rfl⟩) rfl rfl rfl rfl

theorem Sign.Bounded.dropTest : g.dropTest.Bounded :=
  h.lampsOnly (fun i => by
    have hlamp : g.dropTest.lamps[i] = { g.lamps[i] with override := .normal } := mapVector_getElem _ _ _
    rw [hlamp]
    exact ⟨rfl, rfl⟩) rfl rfl rfl rfl

theorem Sign.Bounded.force (a b c d : Override) : (g.force a b c d).Bounded := by
  refine Sign.Bounded.settleLamps (h.lampsOnly (fun i => ?_) rfl rfl rfl rfl)
  dsimp only
  rw [mapVectorIdx_getElem]
  exact ⟨rfl, rfl⟩

theorem Sign.Bounded.clearFaults : g.clearFaults.Bounded := by
  refine ⟨fun i => ?_, h.day, h.night, h.level⟩
  have hlamp : g.clearFaults.lamps[i] = { g.lamps[i] with dark := 0, latch := false } := mapVector_getElem _ _ _
  rw [hlamp]
  exact ⟨Nat.zero_le _, nofun⟩

theorem Sign.Bounded.close (period : Period) (sense : LampSense) : (g.close period sense).Bounded := by
  refine ⟨fun i => ?_, h.day, h.night, rfl⟩
  have hlamp : (g.close period sense).lamps[i] = (g.lamps[i]).sample (g.channelLit i g.lamps[i]) (senseAt sense i) :=
    mapVectorIdx_getElem _ _ _
  rw [hlamp]
  exact Lamp.sample_latches (h.lamps i) _ _

theorem Sign.Bounded.setLevels {day night : Nat} (hday : day ≤ 100) (hnight : night ≤ 100) :
    (g.setLevels day night).Bounded :=
  ⟨h.lamps, ⟨Nat.le_max_left _ _, Nat.max_le.mpr ⟨by decide, hday⟩⟩, ⟨Nat.le_max_left _ _, Nat.max_le.mpr ⟨by decide, hnight⟩⟩,
    rfl⟩

theorem Sign.Bounded.tick : g.tick.Bounded :=
  h.lampsOnly (fun i => by rw [Sign.tick_lamp]; exact ⟨Lamp.settle_dark _ _ _, Lamp.settle_latch _ _ _⟩) rfl rfl rfl rfl

theorem Sign.Bounded.restarted : g.restarted.Bounded := by
  refine ⟨fun i => ?_, h.day, h.night, h.level⟩
  have hlamp : g.restarted.lamps[i] = Lamp.restarted := by simp [Sign.restarted]
  rw [hlamp]
  exact ⟨Nat.zero_le _, nofun⟩

theorem Sign.Move.bounded {g' : Sign} (m : Sign.Move g g') : g'.Bounded := by
  cases m with
  | enter st => exact h.enter st
  | endTest => exact h.dropTest.settleLamps
  | cancel st => exact (h.dropTest.enter st).settleLamps
  | close period sense => exact h.close period sense
  | levels day night hday hnight => exact h.setLevels hday hnight
  | force a b c d => exact h.force a b c d
  | clear => exact h.clearFaults
  | phase n => exact Sign.Bounded.settleLamps (h.lampsOnly (fun _ => ⟨rfl, rfl⟩) rfl rfl rfl rfl)

omit h in
theorem Sign.Moves.bounded {g' : Sign} (m : g.Moves g') (h : g.Bounded) : g'.Bounded := by
  induction m with
  | refl => exact h
  | tail _ m ih => exact m.bounded ih

end Bounded

theorem exec_signBounded {c : Instr} {s t : State} (hs : s.sign.Bounded) (h : exec c s = .next t) : t.sign.Bounded := by
  cases c
  case powerLoss cut =>
    exact event_keeps (P := fun u => u.sign.Bounded) h hs fun _ _ => by rw [powerLoss_sign]; exact hs.restarted
  case restart levels backup =>
    obtain rfl : restart levels backup s = t := by simpa [exec, execRestart] using h
    obtain ⟨state, period, hsign⟩ := restart_sign levels backup s
    rw [hsign]
    obtain ⟨hlamps, hday, hnight, -⟩ := hs.restarted
    exact Sign.Bounded.settleLamps ⟨hlamps, hday, hnight, rfl⟩
  all_goals exact (exec_signMoves h nofun nofun).bounded hs

/-! ## Every unit -/

/-- The bounds of every unit, with a seal input and talk-key inputs that wait for less than their limits. -/
structure State.UnitsBounded (sealLimit keyLimit : Nat) (s : State) : Prop where
  meas : s.meas.Guarded sealLimit
  notices : s.notices.Bounded
  recent : s.pay.recent.length ≤ 4
  intercom : s.intercom.Bounded keyLimit
  sign : s.sign.Bounded

theorem State.UnitsBounded.pending {sealLimit keyLimit : Nat} {s : State} (hs : s.UnitsBounded sealLimit keyLimit)
    (q : List Instr) : State.UnitsBounded sealLimit keyLimit { s with pending := q } :=
  ⟨hs.meas, hs.notices, hs.recent, hs.intercom, hs.sign⟩

theorem exec_unitsBounded {sealLimit keyLimit : Nat} (hseal : 0 < sealLimit) (hkey : 0 < keyLimit) {c : Instr} {s t : State}
    (hs : s.UnitsBounded sealLimit keyLimit) (h : exec c s = .next t) : t.UnitsBounded sealLimit keyLimit :=
  ⟨exec_guarded hseal hs.meas h, exec_bounded hs.notices h, exec_recent hs.recent h, exec_intercomBounded hkey hs.intercom h,
    exec_signBounded hs.sign h⟩

/-- A millisecond's counters let the inputs wait up to their debounce times. -/
theorem State.advance_unitsBounded {s : State} (hs : s.UnitsBounded 50 30) : s.advance.UnitsBounded 51 31 :=
  ⟨⟨hs.meas.1, Pin.tick_waits hs.meas.2⟩, hs.notices, hs.recent, hs.intercom.tick, hs.sign.tick⟩

theorem sealDebounced_unitsBounded {s : State} (hs : s.UnitsBounded 51 31) : (sealDebounced s).UnitsBounded 50 31 := by
  have frame := sealDebounced_frame s
  have hmeas : (sealDebounced s).meas.Guarded 50 := by
    obtain ⟨hlt, he⟩ | ⟨-, he⟩ := sealDebounced_cases s <;> rw [he]
    · exact ⟨hs.meas.1, hlt, hs.meas.2.2⟩
    · have hpos : (0 : Nat) < 50 := by decide
      have at50 : (sealClose s).meas.sealPin.Waits (sealClose s).meas.sealInput 50 := by
        unfold sealClose
        dsimp only
        split <;> exact Pin.at_waits _ _ _ hpos
      split
      · exact ⟨(sealClose_guarded (by decide) hs.meas).1, at50⟩
      · exact sealOpen_guarded hpos
  refine ⟨hmeas, ?_, ?_, ?_, ?_⟩
  · rw [show (sealDebounced s).notices = s.notices from frame .notices (by decide)]; exact hs.notices
  · rw [show (sealDebounced s).pay = s.pay from frame .pay (by decide)]; exact hs.recent
  · rw [show (sealDebounced s).intercom = s.intercom from frame .intercom (by decide)]; exact hs.intercom
  · rw [show (sealDebounced s).sign = s.sign from frame .sign (by decide)]; exact hs.sign

/-! ## The talk keys' inputs (R169) -/

/-- The floor's moves leave the keys alone. -/
theorem Intercom.press_keys (c : Intercom) (side : TalkSide) :
    (c.press side).1.keys = c.keys ∧ (c.press side).1.keyPins = c.keyPins := by
  unfold Intercom.press
  repeat' split
  all_goals exact ⟨rfl, rfl⟩

theorem Intercom.release_keys (c : Intercom) : c.release.keys = c.keys ∧ c.release.keyPins = c.keyPins := by
  unfold Intercom.release
  split <;> exact ⟨rfl, rfl⟩

theorem talkKeyPress_keys {side : TalkSide} {s : State} (h : s.intercom.keys.get side = false) :
    (talkKeyPress side s).intercom.keys = (s.intercom.setKey side true).keys ∧
    (talkKeyPress side s).intercom.keyPins = (s.intercom.setKey side true).keyPins := by
  have hpress := (s.intercom.setKey side true).press_keys side
  unfold talkKeyPress
  rw [if_neg (by simp [h])]
  dsimp only
  split
  · exact ⟨rfl, rfl⟩
  · cases hmoved : ((s.intercom.setKey side true).press side).2 <;> exact hpress
  · split <;> exact ⟨rfl, rfl⟩

theorem talkKeyRelease_keys {side : TalkSide} {s : State} (h : s.intercom.keys.get side = true) :
    (talkKeyRelease side s).intercom.keys = (s.intercom.setKey side false).keys ∧
    (talkKeyRelease side s).intercom.keyPins = (s.intercom.setKey side false).keyPins := by
  have hrelease := (s.intercom.setKey side false).release_keys
  unfold talkKeyRelease
  rw [if_pos h]
  dsimp only
  split
  · exact hrelease
  · exact ⟨rfl, rfl⟩

/-- Taking a key's input leaves the keys as they are, or sets that key with its input (R169). -/
theorem keyDebounced_keys {side : TalkSide} {s : State} {limit : Nat}
    (hpin : (s.intercom.keyPins.get side).Waits (s.intercom.keys.get side) limit) :
    ((s.intercom.keyPins.get side).stable < 30 ∧ keyDebounced side s = s) ∨
    ∃ pressed, (keyDebounced side s).intercom.keys = (s.intercom.setKey side pressed).keys ∧
      (keyDebounced side s).intercom.keyPins = (s.intercom.setKey side pressed).keyPins := by
  obtain ⟨hlt, he⟩ | ⟨hle, he⟩ := keyDebounced_cases side s
  · exact .inl ⟨hlt, he⟩
  · have hlevel : (s.intercom.keyPins.get side).level ≠ s.intercom.keys.get side := hpin.2 (by
      have : 30 ≤ (s.intercom.keyPins.get side).stable := hle
      omega)
    rw [he]
    cases hp : (s.intercom.keyPins.get side).level with
    | true => exact .inr ⟨true, talkKeyPress_keys (by simpa [hp] using hlevel.symm)⟩
    | false => exact .inr ⟨false, talkKeyRelease_keys (by simpa [hp] using hlevel.symm)⟩

theorem Intercom.setKey_pin (c : Intercom) (side : TalkSide) (pressed : Bool) {limit : Nat} (hpos : 0 < limit) :
    ((c.setKey side pressed).keyPins.get side).Waits ((c.setKey side pressed).keys.get side) limit := by
  simpa [Intercom.setKey] using Pin.at_waits _ _ _ hpos

theorem Intercom.setKey_other (c : Intercom) {side other : TalkSide} (h : other ≠ side) (pressed : Bool) :
    (c.setKey side pressed).keyPins.get other = c.keyPins.get other ∧
    (c.setKey side pressed).keys.get other = c.keys.get other :=
  ⟨PerKey.get_set_other _ _ _ _ h, PerKey.get_set_other _ _ _ _ h⟩

/-- A key's input, once taken, waits again for less than its debounce time. -/
theorem keyDebounced_pin {side : TalkSide} {s : State} {limit : Nat}
    (hpin : (s.intercom.keyPins.get side).Waits (s.intercom.keys.get side) limit) :
    ((keyDebounced side s).intercom.keyPins.get side).Waits ((keyDebounced side s).intercom.keys.get side) 30 := by
  obtain ⟨hlt, he⟩ | ⟨pressed, hkeys, hpins⟩ := keyDebounced_keys hpin
  · rw [he]; exact ⟨hlt, hpin.2⟩
  · rw [hkeys, hpins]; exact s.intercom.setKey_pin side pressed (by decide)

/-- The other key's input is left alone. -/
theorem keyDebounced_otherPin {side other : TalkSide} (h : other ≠ side) {s : State} {limit n : Nat}
    (hpin : (s.intercom.keyPins.get side).Waits (s.intercom.keys.get side) limit)
    (hother : (s.intercom.keyPins.get other).Waits (s.intercom.keys.get other) n) :
    ((keyDebounced side s).intercom.keyPins.get other).Waits ((keyDebounced side s).intercom.keys.get other) n := by
  obtain ⟨-, he⟩ | ⟨pressed, hkeys, hpins⟩ := keyDebounced_keys hpin
  · rw [he]; exact hother
  · obtain ⟨hpins', hkeys'⟩ := s.intercom.setKey_other h pressed
    rw [hkeys, hpins, hpins', hkeys']
    exact hother

theorem keyDebounced_unitsBounded (side : TalkSide) {s : State} (hp : s.powered = true) (hs : s.UnitsBounded 50 31) :
    (keyDebounced side s).UnitsBounded 50 31 :=
  keyDebounced_keeps (P := fun u => u.UnitsBounded 50 31)
    (fun _ _ _ hu hc => exec_unitsBounded (by decide) (by decide) hu hc) side hp hs

/-- The changes taken in a millisecond bring every input back within its debounce time. -/
theorem State.debounced_unitsBounded {s : State} (hp : s.powered = true) (hs : s.UnitsBounded 51 31) :
    s.debounced.UnitsBounded 50 30 := by
  have hsealed := sealDebounced_unitsBounded hs
  have hsealedOn : (sealDebounced s).powered = true := (sealDebounced_frame s .powered (by decide)).trans hp
  have hdriver := keyDebounced_unitsBounded .driver hsealedOn hsealed
  have hdriverOn : (keyDebounced .driver (sealDebounced s)).powered = true :=
    (keyDebounced_frame .driver _ .powered (by decide)).trans hsealedOn
  have hrear := keyDebounced_unitsBounded .rear hdriverOn hdriver
  obtain ⟨hspeakers, hheld, htimer, hclaim, -⟩ := hrear.intercom
  refine ⟨hrear.meas, hrear.notices, hrear.recent, ⟨hspeakers, hheld, htimer, hclaim, fun side => ?_⟩, hrear.sign⟩
  cases side with
  | driver =>
    exact keyDebounced_otherPin (side := .rear) (other := .driver) nofun (hdriver.intercom.pins .rear)
      (keyDebounced_pin (hsealed.intercom.pins .driver))
  | rear => exact keyDebounced_pin (hdriver.intercom.pins .rear)

theorem State.unitsBounded_iff (s : State) : s.UnitsBounded 50 30 ↔
    s.RoutesHoldMinimums ∧ s.QueuesFit ∧ s.FloorIsConsistent ∧ s.LampsLatchAtThree ∧ s.LevelsAreLegal ∧
      s.SealStopsCalibration ∧ s.InputsAreDebounced := by
  constructor
  · rintro ⟨⟨hstop, hseal⟩, ⟨hroutes, hmessages⟩, hrecent, ⟨hspeakers, hheld, htimer, hclaim, hpins⟩, hsign⟩
    obtain ⟨hlamps, hlevels⟩ := s.signBounded_iff.mpr hsign
    exact ⟨hroutes, ⟨hmessages .console, hmessages .partition, hmessages .fleet, hspeakers .front, hspeakers .rear, hrecent⟩,
      ⟨hheld, htimer, hclaim⟩, hlamps, hlevels, hstop, hseal, hpins .driver, hpins .rear⟩
  · rintro ⟨hroutes, ⟨hconsole, hpartition, hfleet, hfront, hrear, hrecent⟩, ⟨hheld, htimer, hclaim⟩, hlamps, hlevels,
      hstop, hseal, hdriver, hrearKey⟩
    refine ⟨⟨hstop, hseal⟩, ⟨hroutes, fun p => ?_⟩, hrecent, ⟨fun side => ?_, hheld, htimer, hclaim, fun side => ?_⟩,
      s.signBounded_iff.mp ⟨hlamps, hlevels⟩⟩
    · cases p <;> assumption
    · cases side <;> assumption
    · cases side <;> assumption

/-- Settles O54: every command keeps the units' bounds; in an idle step an input waits at most to its debounce time, at
which its change is taken. -/
theorem unitsKeepTheirBounds : Obligations.UnitsKeepTheirBounds := by
  intro s t hroutes hqueues hfloor hlamps hlevels hstop hinputs hstep
  have hs : s.UnitsBounded 50 30 := s.unitsBounded_iff.mpr ⟨hroutes, hqueues, hfloor, hlamps, hlevels, hstop, hinputs⟩
  refine t.unitsBounded_iff.mp ?_
  obtain ⟨hpending, rfl⟩ | ⟨c, rest, -, hc⟩ := step_cases hstep
  · cases hp : s.powered with
    | false => rwa [tick_unpowered hp]
    | true =>
      have hon : s.advance.periodic.powered = true := (s.advance.periodic_frame .powered (by decide)).trans hp
      have hperiodic : s.advance.periodic.UnitsBounded 51 31 :=
        State.periodic_keeps (P := fun u => u.UnitsBounded 51 31)
          (fun _ _ _ hu hc => exec_unitsBounded (by decide) (by decide) hu hc) hp (State.advance_unitsBounded hs)
      rw [tick_powered hpending hp]
      exact (State.debounced_unitsBounded hon hperiodic).pending _
  · exact exec_unitsBounded (by decide) (by decide) (hs.pending rest) hc

end Sys2Proof.Machine
end


section
/-! The sign in force is the derived one (R147), the lamps follow their phases (R149), and the gates their mute factors
(R165). -/

namespace Sys2Proof.Machine

/-! ## The lamps -/

/-- Every running modulation period stands at one of its 256 slots. -/
def Sign.Fits (g : Sign) : Prop := ∀ i : Fin 4, ∀ m, (g.lamps[i]).period = some m → m.slot < 256

/-- Every lamp runs a period exactly in its channel's on phase, at one of the 256 slots (R149). -/
def Sign.Follows (g : Sign) : Prop :=
  ∀ i : Fin 4, (g.lamps[i]).period.isSome = g.channelLit i g.lamps[i] ∧ ∀ m, (g.lamps[i]).period = some m → m.slot < 256

theorem Sign.Follows.fits {g : Sign} (h : g.Follows) : g.Fits := fun i => (h i).2

/-- Settled lamps follow their phases. -/
theorem Sign.Fits.settleLamps {g : Sign} (h : g.Fits) : g.settleLamps.Follows := by
  refine fun i => ⟨Sign.settleLamps_lit g i, fun m hm => ?_⟩
  rw [Sign.settleLamps_lamp] at hm
  unfold Lamp.settle at hm
  split at hm
  · cases hp : (g.lamps[i]).period with
    | none =>
      rw [hp] at hm
      cases hm
      exact Nat.succ_pos _
    | some n =>
      rw [hp] at hm
      cases hm
      exact h i n hp
  · cases hm

/-- Lamps whose periods are those before, or none. -/
theorem Sign.Fits.lamps {g g' : Sign} (h : g.Fits)
    (hlamps : ∀ i : Fin 4, (g'.lamps[i]).period = (g.lamps[i]).period ∨ (g'.lamps[i]).period = none) : g'.Fits := by
  intro i m hm
  obtain he | he := hlamps i
  · exact h i m (he ▸ hm)
  · rw [he] at hm; cases hm

/-- Lamps with their periods and overrides unchanged, under the same state and phase. -/
theorem Sign.Follows.same {g g' : Sign} (h : g.Follows) (hstate : g'.state = g.state) (hphase : g'.phase = g.phase)
    (hlamps : ∀ i : Fin 4, (g'.lamps[i]).period = (g.lamps[i]).period ∧ (g'.lamps[i]).override = (g.lamps[i]).override) :
    g'.Follows := by
  intro i
  obtain ⟨hperiod, hoverride⟩ := hlamps i
  rw [Sign.channelLit_congr hstate hphase hoverride, hperiod]
  exact h i

theorem Sign.Fits.enter {g : Sign} (h : g.Fits) (st : SignState) : (g.enter st).Follows := by
  refine Sign.Fits.settleLamps (h.lamps fun i => ?_)
  dsimp only
  rw [mapVectorIdx_getElem]
  split
  · exact .inr rfl
  · exact .inl rfl

theorem Sign.Fits.dropTest {g : Sign} (h : g.Fits) : g.dropTest.Fits := by
  refine h.lamps fun i => .inl ?_
  have hlamp : g.dropTest.lamps[i] = { g.lamps[i] with override := .normal } := mapVector_getElem _ _ _
  rw [hlamp]

theorem Lamp.sample_rest (l : Lamp) (lit present : Bool) :
    (l.sample lit present).period = l.period ∧ (l.sample lit present).override = l.override := by
  unfold Lamp.sample
  repeat' split
  all_goals exact ⟨rfl, rfl⟩

theorem Sign.Follows.close {g : Sign} (h : g.Follows) (period : Period) (sense : LampSense) : (g.close period sense).Follows := by
  refine h.same rfl rfl fun i => ?_
  have hlamp : (g.close period sense).lamps[i] = (g.lamps[i]).sample (g.channelLit i g.lamps[i]) (senseAt sense i) :=
    mapVectorIdx_getElem _ _ _
  rw [hlamp]
  exact Lamp.sample_rest _ _ _

theorem Sign.Follows.clearFaults {g : Sign} (h : g.Follows) : g.clearFaults.Follows := by
  refine h.same rfl rfl fun i => ?_
  have hlamp : g.clearFaults.lamps[i] = { g.lamps[i] with dark := 0, latch := false } := mapVector_getElem _ _ _
  rw [hlamp]
  exact ⟨rfl, rfl⟩

theorem Sign.Move.follows {g g' : Sign} (m : Sign.Move g g') (h : g.Follows) : g'.Follows := by
  cases m with
  | enter st => exact h.fits.enter st
  | endTest => exact h.fits.dropTest.settleLamps
  | cancel st => exact (h.fits.dropTest.enter st).fits.settleLamps
  | close period sense => exact h.close period sense
  | levels day night => exact h.same rfl rfl fun _ => ⟨rfl, rfl⟩
  | force a b c d =>
    refine Sign.Fits.settleLamps (h.fits.lamps fun i => ?_)
    dsimp only
    rw [mapVectorIdx_getElem]
    exact .inl rfl
  | clear => exact h.clearFaults
  | phase n => exact Sign.Fits.settleLamps (h.fits.lamps fun _ => .inl rfl)

theorem Sign.Moves.follows {g g' : Sign} (m : g.Moves g') (h : g.Follows) : g'.Follows := by
  induction m with
  | refl => exact h
  | tail _ m ih => exact m.follows ih

theorem Modulation.tick_slot {m : Modulation} (h : m.slot < 256) (width : Nat) : (m.tick width).slot < 256 := by
  unfold Modulation.tick slotsPerMs
  split
  · assumption
  · show m.slot + 250 - 256 < 256
    omega

/-- A millisecond moves each period on within its slots (R149). -/
theorem Sign.Follows.tick {g : Sign} (h : g.Follows) : g.tick.Follows := by
  refine Sign.Fits.settleLamps fun i m hm => ?_
  dsimp only at hm
  rw [mapVector_getElem] at hm
  obtain ⟨n, hn, rfl⟩ := Option.map_eq_some_iff.mp hm
  exact Modulation.tick_slot ((h i).2 n hn) _

/-- No period runs in a sign unit without power (R158). -/
theorem Sign.restarted_fits (g : Sign) : g.restarted.Fits := fun i m hm => by
  have hlamp : g.restarted.lamps[i] = Lamp.restarted := by simp [Sign.restarted]
  rw [hlamp] at hm
  cases hm

theorem exec_lampsFollow {c : Instr} {s t : State} (hs : s.LampsFollowPhases) (h : exec c s = .next t) :
    t.LampsFollowPhases := by
  have keeps : (∀ cut, c ≠ .powerLoss cut) → (∀ l b, c ≠ .restart l b) → t.LampsFollowPhases := fun hloss hrestart hp => by
    have hpowered : t.powered = s.powered := exec_frame h .powered (by cases c <;> simp_all [touches])
    exact (exec_signMoves h hloss hrestart).follows (hs (hpowered ▸ hp))
  cases c
  case powerLoss cut =>
    exact event_keeps (P := State.LampsFollowPhases) h hs fun _ _ hp => absurd hp (by simp [powerLoss])
  case restart levels backup =>
    obtain rfl : restart levels backup s = t := by simpa [exec, execRestart] using h
    obtain ⟨state, period, hsign⟩ := restart_sign levels backup s
    refine fun _ => ?_
    rw [hsign]
    exact Sign.Fits.settleLamps (s.sign.restarted_fits.lamps fun _ => .inl rfl)
  all_goals exact keeps nofun nofun

/-! ## The derived state -/

/-- The sign in force is the derived one. -/
def State.Derived (s : State) : Prop := s.sign.state = s.deriveSign

theorem slotIn_map (st : PartyState) (x : Option Party) : slotIn st x = (x.map Party.state).any (fun y => decide (y = st)) := by
  cases x <;> rfl

/-- What R146 reads: the slots' states, the seat limit, the duty flags and the shift's state. -/
theorem State.deriveSign_congr {s t : State} (hslots : ∀ i, (t.party i).map Party.state = (s.party i).map Party.state)
    (hlimit : t.table.seatLimit = s.table.seatLimit) (hduty : t.table.offDuty = s.table.offDuty)
    (hcall : t.table.onCall = s.table.onCall) (hshift : t.shift.state = s.shift.state) : t.deriveSign = s.deriveSign := by
  have hvacant : t.nonVacant = s.nonVacant := by
    rw [State.nonVacant_eq_countP_party, State.nonVacant_eq_countP_party]
    refine List.countP_congr fun i _ => ?_
    rw [← Option.isSome_map (f := Party.state), hslots, Option.isSome_map]
  have hrunning : t.runningCount = s.runningCount := by
    simp only [State.runningCount, State.slotList_eq_map_party, List.countP_map]
    refine List.countP_congr fun i _ => ?_
    simp only [Function.comp_apply, slotIn_map, hslots]
  unfold State.deriveSign
  rw [hvacant, hrunning, hlimit, hduty, hcall, hshift]

section Derived

variable {s : State}

theorem State.updateSign_derived (u : State) : u.updateSign.Derived := by
  unfold State.Derived
  rw [State.updateSign_state, State.updateSign_deriveSign]

theorem State.cancelTest_derived (u : State) : u.cancelTest.Derived := by
  unfold State.Derived
  rw [State.cancelTest_deriveSign, State.cancelTest_rest]

theorem State.Derived.raise {u : State} (h : u.Derived) (src : NoticeSource) : (u.raise src).Derived := h

theorem State.Derived.requestTone {u : State} (h : u.Derived) (side : CodecSide) (t : Tone) : (u.requestTone side t).Derived := h

theorem State.Derived.settleGates {u : State} (h : u.Derived) : u.settleGates.Derived := h

/-- A record put in its slot in the same state. -/
theorem State.Derived.setParty (h : s.Derived) {i : Fin 4} {p q : Party} (hp : s.party i = some p) (hq : q.state = p.state) :
    (s.setParty i (some q)).Derived := by
  have hsame : (s.setParty i (some q)).deriveSign = s.deriveSign := by
    refine State.deriveSign_congr (fun j => ?_) rfl rfl rfl rfl
    rw [State.setParty_party]
    split
    · next hij => rw [← hij, hp, Option.map_some, Option.map_some, hq]
    · rfl
  unfold State.Derived
  rw [hsame]
  exact h

theorem startHire_derived (h : s.Derived) (pin : Byte) : (startHire pin s).state.Derived := by
  have taken : ∀ i hire pin, (startHireTaken s i hire pin).Derived := by
    intro i hire pin
    have toned : ∀ u : State, u.Derived →
        (((u.raise .hireStarted).requestTone .front .start).requestTone .rear .start).settleGates.Derived := fun u hu =>
      (((hu.raise _).requestTone _ _).requestTone _ _).settleGates
    unfold startHireTaken
    dsimp only
    split
    · exact toned _ (State.cancelTest_derived _)
    · exact toned _ (State.updateSign_derived _)
  unfold startHire
  repeat' split
  all_goals first | exact h | exact taken _ _ _

theorem stopHire_derived (h : s.Derived) (slot : Byte) : (stopHire slot s).state.Derived := by
  unfold stopHire
  repeat' split
  all_goals first | exact h | exact State.updateSign_derived _

theorem resumeHire_derived (h : s.Derived) (slot : Byte) : (resumeHire slot s).state.Derived := by
  unfold resumeHire
  repeat' split
  all_goals first | exact h | exact State.updateSign_derived _

theorem addExtra_derived (h : s.Derived) (port : Port) (slot kind : Byte) (amount : Nat) :
    (addExtra port slot kind amount s).state.Derived := by
  have screened : ∀ i e, (addExtraScreened i e s).state.Derived := fun i e => by
    unfold addExtraScreened
    split
    · exact h
    · next hscreen =>
      split
      · exact h
      · split
        · exact h
        · exact h.setParty (State.screen_ok hscreen).1 rfl
  unfold addExtra
  repeat' split
  all_goals first | exact h | exact screened _ _

theorem pinTariff_derived (h : s.Derived) (slot tariff : Byte) : (pinTariff slot tariff s).state.Derived := by
  unfold pinTariff
  split
  · split
    · exact h
    · next hscreen =>
      exact h.setParty (State.screen_ok hscreen).1 (congrArg Occupant.state (Party.reselect_occupant _ _))
  · exact h

theorem setDuty_derived (h : s.Derived) (v : Byte) : (setDuty v s).state.Derived := by
  unfold setDuty
  repeat' split
  all_goals first | exact h | exact State.updateSign_derived _

theorem setOnCall_derived (h : s.Derived) (v : Byte) : (setOnCall v s).state.Derived := by
  unfold setOnCall
  repeat' split
  all_goals first | exact h | exact State.updateSign_derived _

theorem setSeatLimit_derived (h : s.Derived) (n : Nat) : (setSeatLimit n s).state.Derived := by
  unfold setSeatLimit
  repeat' split
  all_goals first | exact h | exact State.updateSign_derived _

theorem payOpen_derived (h : s.Derived) (slot : Byte) : (payOpen slot s).state.Derived := by
  unfold payOpen payOpenTaken
  repeat' split
  all_goals first | exact h | exact State.updateSign_derived _

theorem payTip_derived (h : s.Derived) (payment hire tip : Nat) : (payTip payment hire tip s).state.Derived := by
  unfold payTip
  split
  · exact h
  · split
    · exact h
    · split
      · exact h
      · split
        · exact h
        · next hparty => exact h.setParty hparty rfl

theorem approveOpen_derived (h : s.Derived) (x : Session) (offline : Bool) (amount reference : Nat) :
    (approveOpen x offline amount reference s).state.Derived := by
  have toned : ∀ (u : State) (t : Tone), ((u.updateSign.raise .paymentResult).requestTone .rear t).settleGates.Derived :=
    fun u _ => ((u.updateSign_derived.raise _).requestTone _ _).settleGates
  have orphaned : (orphanOpen x offline amount reference s).state.Derived := by
    unfold orphanOpen
    split
    · exact toned _ _
    · exact h
  unfold approveOpen
  split
  · exact orphaned
  · split
    · exact toned _ _
    · exact orphaned

/-- An orphan approval's count leaves the shift's state alone. -/
theorem State.Derived.queueOrphan (h : s.Derived) (o : OrphanEntry) : (s.queueOrphan o).Derived := by
  have hshift : (s.queueOrphan o).shift.state = s.shift.state := by
    show (Shift.gain _ _).state = _
    unfold Shift.gain
    split <;> rfl
  have hsame : (s.queueOrphan o).deriveSign = s.deriveSign := State.deriveSign_congr (fun _ => rfl) rfl rfl rfl hshift
  unfold State.Derived
  rw [hsame]
  exact h

theorem approveLate_derived (h : s.Derived) (payment hire : Nat) (offline : Bool) (amount reference : Nat) :
    (approveLate payment hire offline amount reference s).state.Derived := by
  have orphaned : ∀ found, (orphanLate found payment offline amount reference s).state.Derived := fun found => by
    unfold orphanLate
    split
    · split
      · exact State.Derived.queueOrphan (s := { s with pay := { s.pay with recent := markResult s.pay.recent _ } }) h _
      · exact h.queueOrphan _
    · exact h
  unfold approveLate
  split
  · exact orphaned _
  · split
    · exact (State.updateSign_derived _).raise _
    · exact orphaned _

theorem payResult_derived (h : s.Derived) (payment hire : Nat) (outcome : Byte) (amount reference : Nat) :
    (payResult payment hire outcome amount reference s).state.Derived := by
  have approves : ∀ offline, (approval payment hire offline amount reference s).state.Derived := by
    intro offline
    unfold approval
    repeat' split
    · exact h
    · exact approveOpen_derived h _ _ _ _
    · exact approveLate_derived h _ _ _ _ _
  have declines : ∀ declined, (decline payment hire declined s).state.Derived := by
    intro declined
    unfold decline
    split
    · exact (((State.updateSign_derived _).raise _).requestTone _ _).settleGates
    · exact h
  unfold payResult
  repeat' split
  · exact h
  · exact h
  · exact approves _
  · exact approves _
  · exact declines _
  · exact declines _

theorem cashSettle_derived (h : s.Derived) (slot : Byte) (amount : Nat) : (cashSettle slot amount s).state.Derived := by
  unfold cashSettle cashTaken
  repeat' split
  all_goals first | exact h | exact State.updateSign_derived _

theorem shiftOpen_derived (h : s.Derived) (driver : Nat) : (shiftOpen driver s).state.Derived := by
  unfold shiftOpen
  repeat' split
  all_goals first | exact h | exact State.updateSign_derived _

theorem shiftClose_derived (h : s.Derived) : (shiftClose s).state.Derived := by
  unfold shiftClose
  repeat' split
  all_goals first | exact h | exact State.updateSign_derived _

theorem sessionExpiry_derived (h : s.Derived) : (sessionExpiry s).Derived := by
  unfold sessionExpiry
  split
  · exact h
  · exact ((((State.updateSign_derived _).raise _).requestTone _ _).requestTone _ _).settleGates

/-- The fleet settings leave the shift's state alone. -/
theorem fleetSettings_derived (h : s.Derived) (v : Nat) :
    (setCommission v s).state.Derived ∧ (setOfflineCap v s).state.Derived ∧ (setTipCap v s).state.Derived ∧
    (setHoldLimit v s).state.Derived := by
  unfold setCommission setOfflineCap setTipCap setHoldLimit
  refine ⟨?_, ?_, ?_, ?_⟩ <;> split <;> exact h

/-- A lamp test leaves the state in force. -/
theorem lampTest_derived (h : s.Derived) (a b c d : Byte) : (lampTest a b c d s).state.Derived := by
  unfold lampTest
  repeat' split
  all_goals exact h

/-- A closure moves no slot to another state (R41). -/
theorem windowClose_derived (h : s.Derived) (sense : LampSense) : (windowClose sense s).Derived := by
  obtain ⟨-, htable, hshift, hsign, -⟩ := windowClose_parts s sense
  have hstate : (windowClose sense s).shift.state = s.shift.state := by
    rw [hshift]
    show (Shift.gain _ _).state = _
    unfold Shift.gain
    split <;> rfl
  have hsame : (windowClose sense s).deriveSign = s.deriveSign := by
    refine State.deriveSign_congr (fun i => ?_) (by rw [htable]; rfl) (by rw [htable]; rfl) (by rw [htable]; rfl) hstate
    rw [windowClose_party, Option.map_map]
    exact Option.map_congr fun x _ => congrArg Occupant.state (Party.atClosure_occupant _ _ _ _ x)
  unfold State.Derived
  rw [hsame, hsign]
  exact h

theorem afterStored_derived (h : s.Derived) (e : Entry) : (s.afterStored e).Derived := by
  unfold State.afterStored
  split
  · exact State.updateSign_derived _
  · exact (State.updateSign_derived _).raise _
  · exact h
  · exact h
  · exact h

theorem appendComplete_derived (h : s.Derived) : (appendComplete s).Derived := by
  obtain ⟨-, he⟩ | ⟨b, -, he⟩ := appendComplete_cases s <;> rw [he]
  · exact h
  · exact afterStored_derived (s := { s with journal := s.journal.complete _ }) h _

theorem State.firstSign_derived (u : State) : u.firstSign.Derived := rfl

end Derived

theorem derived_readsOnly : ReadsOnly [.table, .shift, .sign, .powered] State.SignIsDerived := fun s t h hs hp => by
  have htable : t.table = s.table := h .table (by simp)
  have hshift : t.shift = s.shift := h .shift (by simp)
  have hsign : t.sign = s.sign := h .sign (by simp)
  have hpowered : t.powered = s.powered := h .powered (by simp)
  have hsame : t.deriveSign = s.deriveSign :=
    State.deriveSign_congr (fun i => by unfold State.party; rw [htable]) (by rw [htable]) (by rw [htable]) (by rw [htable])
      (by rw [hshift])
  rw [hsign, hsame]
  exact hs (hpowered ▸ hp)

theorem exec_derived {c : Instr} {s t : State} (hs : s.SignIsDerived) (h : exec c s = .next t) : t.SignIsDerived := by
  have req : ∀ {p : Port} {k : Kind} {body : State → Answer}, request p k body s = .next t →
      (s.Derived → (body s).state.Derived) → t.SignIsDerived := fun hr hbody =>
    derived_readsOnly.request (by decide) hr (fun hp _ => hbody (hs hp)) hs
  have event : ∀ {f : State → State}, event f s = .next t → (s.Derived → (f s).Derived) → t.SignIsDerived := fun he hf =>
    event_keeps he hs fun _ hp _ => hf (hs hp)
  have frame := @ReadsOnly.exec _ _ derived_readsOnly c s t h
  cases c
  case startHire => exact req h fun hd => startHire_derived hd _
  case stopHire => exact req h fun hd => stopHire_derived hd _
  case resumeHire => exact req h fun hd => resumeHire_derived hd _
  case addExtra => exact req h fun hd => addExtra_derived hd _ _ _ _
  case pinTariff => exact req h fun hd => pinTariff_derived hd _ _
  case setDuty => exact req h fun hd => setDuty_derived hd _
  case setOnCall => exact req h fun hd => setOnCall_derived hd _
  case setSeatLimit => exact req h fun hd => setSeatLimit_derived hd _
  case payOpen => exact req h fun hd => payOpen_derived hd _
  case payTip => exact req h fun hd => payTip_derived hd _ _ _
  case payResult => exact req h fun hd => payResult_derived hd _ _ _ _ _
  case cashSettle => exact req h fun hd => cashSettle_derived hd _ _
  case shiftOpen => exact req h fun hd => shiftOpen_derived hd _
  case shiftClose => exact req h shiftClose_derived
  case setCommission => exact req h fun hd => (fleetSettings_derived hd _).1
  case setOfflineCap => exact req h fun hd => (fleetSettings_derived hd _).2.1
  case setTipCap => exact req h fun hd => (fleetSettings_derived hd _).2.2.1
  case setHoldLimit => exact req h fun hd => (fleetSettings_derived hd _).2.2.2
  case setBrightness => exact req h fun hd => by unfold setBrightness; split <;> exact hd
  case lampTest => exact req h fun hd => lampTest_derived hd _ _ _ _
  case lampClear => exact req h fun hd => hd
  case lampPhaseChange => exact event h fun hd => by unfold lampPhaseChange; split <;> exact hd
  case testTimerExpiry => exact event h fun hd => by unfold testTimerExpiry; split <;> exact hd
  case windowClose => exact event h fun hd => windowClose_derived hd _
  case sessionExpiry => exact event h sessionExpiry_derived
  case appendComplete => exact event h appendComplete_derived
  case powerLoss cut => exact event_keeps h hs fun _ _ hp => absurd hp (by simp [powerLoss])
  case restart levels backup =>
    obtain rfl : restart levels backup s = t := by simpa [exec, execRestart] using h
    exact fun _ => State.firstSign_derived _
  all_goals exact frame (by simp [touches]) hs

end Sys2Proof.Machine
end


section
/-! The gates follow their mute factors (R165), and the invariant of the sign and the gates across a step. -/

namespace Sys2Proof.Machine

/-! ## The gates -/

theorem State.settleGates_factors (s : State) (q : AudioPath) : s.settleGates.factors q = s.factors q := rfl

/-- Settled gates follow their factors. -/
theorem State.settleGates_follow (s : State) : s.settleGates.GatesFollowFactors := by
  have path : ∀ q, (s.settleGates.factors q).any = true ↔ (s.settleGates.intercom.paths.get q).gate = .muted := fun q => by
    rw [State.settleGates_factors, State.settleGates_path, gateAfter_muted]
  exact ⟨path .frontToRear, path .rearToFront⟩

/-- A change that leaves the factors, and the gates MUTED or not. -/
theorem State.GatesFollowFactors.same {s t : State} (h : s.GatesFollowFactors)
    (hfactors : ∀ q, (t.factors q).any = (s.factors q).any)
    (hgates : ∀ q, (t.intercom.paths.get q).gate = .muted ↔ (s.intercom.paths.get q).gate = .muted) :
    t.GatesFollowFactors := by
  obtain ⟨hfront, hrear⟩ := h
  exact ⟨by rw [hfactors]; exact hfront.trans (hgates .frontToRear).symm,
    by rw [hfactors]; exact hrear.trans (hgates .rearToFront).symm⟩

/-- The factors read the intercom unit, the PIN entry and the guard timer (R163). -/
theorem State.factors_congr {s t : State} (hintercom : t.intercom = s.intercom) (hpin : t.pay.pinEntry = s.pay.pinEntry)
    (hguard : t.pay.guardTimer.isSome = s.pay.guardTimer.isSome) (q : AudioPath) : t.factors q = s.factors q := by
  simp only [State.factors, hintercom, hpin, hguard]

theorem State.GatesFollowFactors.pay {s t : State} (h : s.GatesFollowFactors) (hintercom : t.intercom = s.intercom)
    (hpin : t.pay.pinEntry = s.pay.pinEntry) (hguard : t.pay.guardTimer.isSome = s.pay.guardTimer.isSome) :
    t.GatesFollowFactors :=
  h.same (fun q => by rw [State.factors_congr hintercom hpin hguard]) fun q => by rw [hintercom]

theorem gates_readsOnly : ReadsOnly [.intercom, .pay] State.GatesFollowFactors := fun s t h hs =>
  have hpay : t.pay = s.pay := h .pay (by simp)
  hs.pay (h .intercom (by simp)) (by rw [hpay]) (by rw [hpay])

/-- Gates with a RATE factor active on both paths, both MUTED. -/
theorem gates_of_rateFault {s : State} (hrate : s.intercom.rateFault = true) (hfront : s.intercom.paths.frontToRear.gate = .muted)
    (hrear : s.intercom.paths.rearToFront.gate = .muted) : s.GatesFollowFactors := by
  have any : ∀ q, (s.factors q).any = true := fun q => by simp [State.factors, Factors.any, hrate]
  exact ⟨iff_of_true (any _) hfront, iff_of_true (any _) hrear⟩

section Commands

variable {s : State} (h : s.GatesFollowFactors)

include h

theorem startHire_gates (pin : Byte) : (startHire pin s).state.GatesFollowFactors := by
  unfold startHire
  repeat' split
  all_goals first | exact h | exact State.settleGates_follow _

theorem payOpen_gates (slot : Byte) : (payOpen slot s).state.GatesFollowFactors := by
  have taken : ∀ i p, s.pay.session.isSome ≠ true → (payOpenTaken s i p).GatesFollowFactors := fun i p hsession => by
    have hnone : s.pay.session = none := by simpa using hsession
    refine h.pay (by simp [payOpenTaken]) ?_ ?_
    · simp only [payOpenTaken, State.updateSign_pay, State.raise_pay, Payment.pinEntry, hnone]
      rfl
    · simp only [payOpenTaken, State.updateSign_pay, State.raise_pay, State.setParty_pay]
  unfold payOpen
  repeat' split
  all_goals first | exact h | exact taken _ _ ‹_›

theorem payTip_gates (payment hire tip : Nat) : (payTip payment hire tip s).state.GatesFollowFactors := by
  unfold payTip
  split
  · exact h
  · split
    · exact h
    · next x hsession =>
      split
      · exact h
      · split
        · exact h
        · exact h.pay rfl (by simp only [payTipTaken, Payment.pinEntry, hsession]) rfl

theorem pinState_gates (value : Byte) : (pinState value s).state.GatesFollowFactors := by
  unfold pinState
  repeat' split
  all_goals first | exact h | exact State.settleGates_follow _

theorem pinGuardExpiry_gates : (pinGuardExpiry s).GatesFollowFactors := by
  unfold pinGuardExpiry
  split
  · exact State.settleGates_follow _
  · exact h

theorem approveOpen_gates (x : Session) (offline : Bool) (amount reference : Nat) :
    (approveOpen x offline amount reference s).state.GatesFollowFactors := by
  have orphaned : (orphanOpen x offline amount reference s).state.GatesFollowFactors := by
    unfold orphanOpen
    split
    · exact State.settleGates_follow _
    · exact h
  unfold approveOpen
  split
  · exact orphaned
  · split
    · exact State.settleGates_follow _
    · exact orphaned

theorem approveLate_gates (payment hire : Nat) (offline : Bool) (amount reference : Nat) :
    (approveLate payment hire offline amount reference s).state.GatesFollowFactors := by
  have orphaned : ∀ found, (orphanLate found payment offline amount reference s).state.GatesFollowFactors := fun found => by
    unfold orphanLate
    split
    · split <;> exact h.pay rfl rfl rfl
    · exact h
  unfold approveLate
  split
  · exact orphaned _
  · split
    · refine h.pay (by simp [applyLate]) ?_ ?_ <;>
        simp only [applyLate, State.raise_pay, State.updateSign_pay, State.applyTender_pay, Payment.pinEntry]
    · exact orphaned _

theorem payResult_gates (payment hire : Nat) (outcome : Byte) (amount reference : Nat) :
    (payResult payment hire outcome amount reference s).state.GatesFollowFactors := by
  have approves : ∀ offline, (approval payment hire offline amount reference s).state.GatesFollowFactors := by
    intro offline
    unfold approval
    repeat' split
    · exact h
    · exact approveOpen_gates h _ _ _ _
    · exact approveLate_gates h _ _ _ _ _
  have declines : ∀ declined, (decline payment hire declined s).state.GatesFollowFactors := by
    intro declined
    unfold decline
    split
    · exact State.settleGates_follow _
    · exact h
  unfold payResult
  repeat' split
  · exact h
  · exact h
  · exact approves _
  · exact approves _
  · exact declines _
  · exact declines _

theorem sessionExpiry_gates : (sessionExpiry s).GatesFollowFactors := by
  unfold sessionExpiry
  split
  · exact h
  · exact State.settleGates_follow _

/-- A path replaced by one whose gate is MUTED exactly where its gate was. -/
theorem setPath_gates (q : AudioPath) {l : AudioLine} (hl : l.gate = .muted ↔ (s.intercom.paths.get q).gate = .muted) :
    (s.setIntercom { s.intercom with paths := s.intercom.paths.set q l }).GatesFollowFactors := by
  refine h.same (fun _ => rfl) fun r => ?_
  by_cases hr : r = q
  · subst hr
    simpa using hl
  · simp [PerPath.get_set_other _ _ _ _ hr]

theorem setPathGain_gates (path : Byte) (gain delay : Nat) : (setPathGain path gain delay s).state.GatesFollowFactors := by
  unfold setPathGain
  split
  · exact h
  · split
    · exact h
    · exact setPath_gates h _ Iff.rfl

theorem releaseTimerExpiry_gates (path : AudioPath) : (releaseTimerExpiry path s).GatesFollowFactors := by
  refine setPath_gates h path ?_
  unfold AudioLine.pass
  split
  · next hgate => rw [hgate]; exact ⟨nofun, nofun⟩
  · exact Iff.rfl

theorem setIntercomMode_gates (mode : Byte) : (setIntercomMode mode s).state.GatesFollowFactors := by
  unfold setIntercomMode
  split
  · exact h
  · dsimp only
    split
    · exact h
    · exact State.settleGates_follow _

theorem setIntercomMute_gates (mute privacy : Byte) : (setIntercomMute mute privacy s).state.GatesFollowFactors := by
  unfold setIntercomMute
  split
  · exact State.settleGates_follow _
  · exact h

theorem setTalkOverride_gates (value : Byte) : (setTalkOverride value s).state.GatesFollowFactors := by
  unfold setTalkOverride
  split
  · exact h
  · exact h.same (fun _ => rfl) fun _ => Iff.rfl

theorem playTone_gates (tone speaker : Byte) : (playTone tone speaker s).state.GatesFollowFactors := by
  unfold playTone
  split
  · dsimp only
    split <;> exact State.settleGates_follow _
  · exact h

/-- A key's level is no mute factor. -/
theorem setKey_gates (side : TalkSide) (pressed : Bool) :
    (s.setIntercom (s.intercom.setKey side pressed)).GatesFollowFactors :=
  h.same (fun _ => rfl) fun _ => Iff.rfl

theorem talkKeyPress_gates (side : TalkSide) : (talkKeyPress side s).GatesFollowFactors := by
  unfold talkKeyPress
  split
  · exact h
  · dsimp only
    split
    · exact setKey_gates h side true
    · exact State.settleGates_follow _
    · split
      · exact State.settleGates_follow _
      · exact setKey_gates h side true

theorem talkKeyRelease_gates (side : TalkSide) : (talkKeyRelease side s).GatesFollowFactors := by
  unfold talkKeyRelease
  split
  · dsimp only
    split
    · exact State.settleGates_follow _
    · exact setKey_gates h side false
  · exact h

theorem floorTimerExpiry_gates : (floorTimerExpiry s).GatesFollowFactors := by
  unfold floorTimerExpiry
  split
  · exact State.settleGates_follow _
  · exact h

omit h in
/-- A frame that is no tone's last leaves the speaker playing or not. -/
theorem Speaker.frame_playing {x : Speaker} (hlast : x.lastFrame = false) (l : AudioLine) :
    (x.frame l).playing.isSome = x.playing.isSome := by
  show x.advance.playing.isSome = _
  unfold Speaker.advance
  rw [if_neg (by simp [hlast])]
  split
  · next hy => rw [hy]; rfl
  · rfl

omit h in
theorem Intercom.frame_gate (c : Intercom) (side : CodecSide) (mic : BitVec 16) (q : AudioPath) :
    ((c.frame side mic).paths.get q).gate = (c.paths.get q).gate := by
  cases side <;> cases q <;> rfl

omit h in
theorem Intercom.frame_fault (c : Intercom) (side : CodecSide) (mic : BitVec 16) :
    (c.frame side mic).rateFault = c.rateFault := by
  cases side <;> rfl

omit h in
theorem Intercom.frame_playing {c : Intercom} {side : CodecSide} (hlast : (c.speakers.get side).lastFrame = false)
    (mic : BitVec 16) (other : CodecSide) :
    ((c.frame side mic).speakers.get other).playing.isSome = (c.speakers.get other).playing.isSome := by
  by_cases ho : other = side
  · subst ho
    simpa [Intercom.frame] using Speaker.frame_playing hlast (c.paths.get (pathTo other))
  · simp [Intercom.frame, PerCodec.get_set_other _ _ _ _ ho]

theorem codecFrame_gates (side : CodecSide) (mic : BitVec 16) : (codecFrame side mic s).GatesFollowFactors := by
  unfold codecFrame
  split
  · exact State.settleGates_follow _
  · next hlast =>
    have hlast : (s.intercom.speakers.get side).lastFrame = false := by simpa using hlast
    refine h.same (fun q => ?_) fun q => by rw [State.setIntercom_intercom, Intercom.frame_gate]
    have hfactors : (s.setIntercom (s.intercom.frame side mic)).factors q = s.factors q := by
      simp only [State.factors, State.setIntercom_intercom, Intercom.frame_fault, Intercom.frame_playing hlast]
      rfl
    rw [hfactors]

theorem toneEnd_gates (side : CodecSide) (mic : BitVec 16) : (toneEnd side mic s).GatesFollowFactors := by
  unfold toneEnd
  split
  · exact codecFrame_gates h side mic
  · exact h

/-- A millisecond mutes no gate and releases none. -/
theorem advance_gates : s.advance.GatesFollowFactors := by
  have gate : ∀ g : Gate, g.tick = .muted ↔ g = .muted := fun g => by cases g <;> simp [Gate.tick]
  refine h.same (fun q => ?_) fun q => ?_
  · have hpin : s.pay.tick.pinEntry = s.pay.pinEntry := by
      unfold Payment.pinEntry Payment.tick
      cases s.pay.session <;> rfl
    have hguard : s.pay.tick.guardTimer.isSome = s.pay.guardTimer.isSome := Option.isSome_map ..
    have hfactors : s.advance.factors q = s.factors q := by
      simp only [State.factors, State.advance_intercom, State.advance_pay, hpin, hguard]
      rfl
    rw [hfactors]
  · cases q <;> exact gate _

end Commands

theorem powerLoss_gates (cut : PowerCut) (s : State) : (powerLoss cut s).GatesFollowFactors :=
  gates_of_rateFault rfl rfl rfl

theorem restart_gates (levels : InputLevels) (backup : Backup) (s : State) : (restart levels backup s).GatesFollowFactors := by
  apply gates_of_rateFault <;> rw [restart_intercom, State.wake_intercom] <;> rfl

theorem exec_gates {c : Instr} {s t : State} (hs : s.GatesFollowFactors) (h : exec c s = .next t) : t.GatesFollowFactors := by
  have req := @ReadsOnly.request _ _ gates_readsOnly (by decide)
  have event := @event_keeps State.GatesFollowFactors
  have frame := @ReadsOnly.exec _ _ gates_readsOnly c s t h
  cases c
  case startHire => exact req h (fun _ => startHire_gates hs _) hs
  case payOpen => exact req h (fun _ => payOpen_gates hs _) hs
  case payTip => exact req h (fun _ => payTip_gates hs _ _ _) hs
  case pinState => exact req h (fun _ => pinState_gates hs _) hs
  case setPinGuard => exact req h (fun _ => by unfold setPinGuard; split <;> exact hs) hs
  case payResult => exact req h (fun _ => payResult_gates hs _ _ _ _ _) hs
  case setPathGain => exact req h (fun _ => setPathGain_gates hs _ _ _) hs
  case setIntercomMode => exact req h (fun _ => setIntercomMode_gates hs _) hs
  case setIntercomMute => exact req h (fun _ => setIntercomMute_gates hs _ _) hs
  case setTalkOverride => exact req h (fun _ => setTalkOverride_gates hs _) hs
  case playTone => exact req h (fun _ => playTone_gates hs _ _) hs
  case windowClose => exact event h hs fun _ _ => State.settleGates_follow _
  case sessionExpiry => exact event h hs fun _ _ => sessionExpiry_gates hs
  case pinGuardExpiry => exact event h hs fun _ _ => pinGuardExpiry_gates hs
  case releaseTimerExpiry => exact event h hs fun _ _ => releaseTimerExpiry_gates hs _
  case talkKeyPress => exact event h hs fun _ _ => talkKeyPress_gates hs _
  case talkKeyRelease => exact event h hs fun _ _ => talkKeyRelease_gates hs _
  case floorTimerExpiry => exact event h hs fun _ _ => floorTimerExpiry_gates hs
  case codecFrame => exact event h hs fun _ _ => codecFrame_gates hs _ _
  case toneEnd => exact event h hs fun _ _ => toneEnd_gates hs _ _
  case powerLoss cut => exact event h hs fun _ _ => powerLoss_gates cut s
  case restart levels backup =>
    obtain rfl : restart levels backup s = t := by simpa [exec, execRestart] using h
    exact restart_gates levels backup s
  all_goals exact frame (by simp [touches]) hs

/-! ## Every step -/

/-- Settles O55: every command derives the sign afresh where its inputs change, settles the lamps with their phases and the
gates with their factors; a millisecond moves the lamps on and changes no input of the others. -/
theorem signAndGatesFollow : Obligations.SignAndGatesFollow := by
  intro s t hderived hlamps hgates hstep
  refine step_keeps (P := fun u => u.SignIsDerived ∧ u.LampsFollowPhases ∧ u.GatesFollowFactors) ?exec ?queue ?advance hstep
    ⟨hderived, hlamps, hgates⟩
  case exec => exact fun _ _ _ ⟨hd, hl, hg⟩ hc => ⟨exec_derived hd hc, exec_lampsFollow hl hc, exec_gates hg hc⟩
  case queue => exact fun _ _ hu => hu
  case advance => exact fun _ _ ⟨hd, hl, hg⟩ => ⟨hd, fun hp => Sign.Follows.tick (hl hp), advance_gates hg⟩

end Sys2Proof.Machine
end


section
/-! The machine as a whole: which command a step takes, that every command completes, and what every request does at its
port. -/

namespace Sys2Proof.Machine

/-! ## The queue (O1, O3, O4) -/

/-- Settles O1: the step's own equation for a queue with a front. -/
theorem stepTakesTheFrontCommand : Obligations.StepTakesTheFrontCommand := fun _ _ _ => rfl

/-- Every command is a request with its body, an event with its function, or the restart. -/
theorem exec_shape (c : Instr) :
    (∃ p k ps, c.request? = some (p, k, ps)) ∨ (∃ f : State → State, ∀ s, exec c s = event f s) ∨
      ∃ levels backup, c = .restart levels backup := by
  by_cases hrestart : ∃ levels backup, c = .restart levels backup
  · exact .inr (.inr hrestart)
  cases hreq : c.request? with
  | some r => exact .inl ⟨r.1, r.2.1, r.2.2, rfl⟩
  | none => exact .inr (.inl (exec_event hreq fun l b h => hrestart ⟨l, b, h⟩))

/-- Every command has a next state. -/
theorem exec_next (c : Instr) (s : State) : ∃ t, exec c s = .next t := by
  obtain ⟨p, k, ps, h⟩ | ⟨f, h⟩ | ⟨levels, backup, rfl⟩ := exec_shape c
  · obtain ⟨body, h⟩ := exec_request h
    rw [h, request]
    split
    · split <;> exact ⟨_, rfl⟩
    · exact ⟨_, rfl⟩
  · rw [h, event]
    split <;> exact ⟨_, rfl⟩
  · exact ⟨_, rfl⟩

/-- No command touches the queue (log 4). -/
theorem exec_pending {c : Instr} {s t : State} (h : exec c s = .next t) : t.pending = s.pending :=
  exec_frame h .pending (by cases c <;> simp [touches])

/-- Settles O3: a request, an event and the restart each have a next state, and the queue is in no command's frame. -/
theorem everyCommandCompletes : Obligations.EveryCommandCompletes := by
  intro c s
  obtain ⟨t, h⟩ := exec_next c s
  exact ⟨t, h, exec_pending h⟩

/-- Settles O4: without main power a request and an event do nothing. -/
theorem unpoweredPartTakesNothing : Obligations.UnpoweredPartTakesNothing := by
  intro c s hp hrestart
  obtain ⟨p, k, ps, h⟩ | ⟨f, h⟩ | ⟨levels, backup, h⟩ := exec_shape c
  · obtain ⟨body, h⟩ := exec_request h
    simp [h, request, hp]
  · simp [h, event, hp]
  · exact absurd h (hrestart levels backup)

/-! ## The reply of every request (O5, O6) -/

/-- Settles O5: the role check comes before every request's own rule. -/
theorem roleIsCheckedForEveryRequest : Obligations.RoleIsCheckedForEveryRequest := by
  intro c p k ps s hreq hrole hp
  obtain ⟨body, h⟩ := exec_request hreq
  rw [h, request_role hp hrole]

theorem State.putReply_reply (s : State) (p : Port) (k : Nat) (st : Status) (res : List Byte) :
    ((s.putReply p k st res).ports.get p).reply = some { frame := replyFrame st k res, position := 0 } := by
  simp [State.putReply]

theorem State.putReply_receive (s : State) (p : Port) (k : Nat) (st : Status) (res : List Byte) :
    ((s.putReply p k st res).ports.get p).receive = [] := by
  simp [State.putReply]

theorem State.putReply_otherPort (s : State) {p q : Port} (k : Nat) (st : Status) (res : List Byte) (h : q ≠ p) :
    (s.putReply p k st res).ports.get q = s.ports.get q :=
  PerPort.get_set_other _ _ _ _ h

/-- A taken request ends in a reply at its port, to a state with the port buffers as before. -/
theorem exec_request_reply {c : Instr} {p : Port} {k : Kind} {ps : List Byte} (hreq : c.request? = some (p, k, ps))
    {s : State} (hp : s.powered = true) :
    ∃ (u : State) (st : Status) (res : List Byte), exec c s = .next (u.putReply p k.code st res) ∧ u.ports = s.ports := by
  obtain ⟨body, h⟩ := exec_request_ports hreq
  obtain ⟨hexec, hports⟩ := h s
  cases hrole : k.ports.has p with
  | true => exact ⟨_, _, _, hexec.trans (request_taken hp hrole), hports⟩
  | false => exact ⟨_, _, _, hexec.trans (request_role hp hrole), rfl⟩

/-- The bytes of a reply frame (R201). -/
theorem replyFrame_bytes (st : Status) (k : Nat) (res : List Byte) : replyFrame st k res =
    [BitVec.ofNat 8 st.code, BitVec.ofNat 8 k, BitVec.ofNat 8 res.length, BitVec.ofNat 8 (res.length / 256)] ++ res := rfl

/-- Settles O6: a request's own rule leaves the port buffers to its reply. -/
theorem eachRequestIsAnsweredAtItsPort : Obligations.EachRequestIsAnsweredAtItsPort := by
  refine ⟨?reply, replyFrame_bytes, by decide⟩
  case reply =>
    intro c p k ps s hreq hp
    obtain ⟨u, st, res, hexec, hports⟩ := exec_request_reply hreq hp
    exact ⟨_, st, res, hexec, u.putReply_receive .., u.putReply_reply .., fun q hq => by
      rw [u.putReply_otherPort _ _ _ hq, hports]⟩

/-! ## Request frames (O8) -/

theorem Kind.ofCode_code (k : Kind) : Kind.ofCode k.code = some k := by cases k <;> decide

theorem Kind.code_lt (k : Kind) : k.code < 256 := by cases k <;> decide

/-- The parameters of a well-formed request fill no more than a frame's 60 bytes (R196). -/
theorem Instr.params_length {c : Instr} {p : Port} {k : Kind} {ps : List Byte} (hw : c.wellFormed = true)
    (h : c.request? = some (p, k, ps)) : ps.length ≤ 60 := by
  cases c <;> cases h
  case postMessage text =>
    have : text.length ≤ 59 := by simpa [Instr.wellFormed] using hw
    simp only [List.length_cons]
    omega
  all_goals simp

/-- The parameter bytes of a well-formed request spell it again (R203). -/
theorem parseRequest_params {c : Instr} {p : Port} {k : Kind} {ps : List Byte} (hw : c.wellFormed = true)
    (h : c.request? = some (p, k, ps)) : parseRequest k p ps = some c := by
  cases c <;> cases h
  case tariffItem => simp [parseRequest, fieldWord_bytes]
  case postMessage =>
    rw [Instr.wellFormed, decide_eq_true_eq] at hw
    simp [parseRequest, hw]
  all_goals simp [parseRequest, leBytes, word16_bytes, word32_bytes, -BitVec.ofNat_toNat]

/-- Settles O8: the frame is judged complete (R196), its kind byte is the kind's own, and its parameters spell the
request. -/
theorem requestFramesDecode : Obligations.RequestFramesDecode := by
  intro c p k ps f hw hreq hf
  obtain ⟨-, kind, params, hframe, hjudge⟩ :=
    Laws.FrameLength.of_length (fun hw p k ps h => Instr.params_length hw h) hw f hf
  obtain ⟨rfl, -, rfl⟩ : BitVec.ofNat 8 k.code = kind ∧ BitVec.ofNat 8 ps.length = BitVec.ofNat 8 params.length ∧
      ps = params := by
    have : f = BitVec.ofNat 8 k.code :: BitVec.ofNat 8 ps.length :: ps := by
      simpa [requestFrame, hreq] using hf.symm
    simpa using this.symm.trans hframe
  have hkind : Kind.ofCode (BitVec.ofNat 8 k.code).toNat = some k := by
    rw [BitVec.toNat_ofNat, Nat.mod_eq_of_lt (Kind.code_lt k), Kind.ofCode_code]
  simp only [decodeSelection, hjudge, hkind, parseRequest_params hw hreq]

end Sys2Proof.Machine
end


section
/-! The commit's checks on a tariff set (chapter 2): what each check says of the set, and which rule a failing check names. -/

namespace Sys2Proof.Machine

/-! ## The checks of a rule (R25) -/

theorem TariffSet.allows_iff {t : TariffSet} {n : Option TariffNo} :
    t.allows n = true ↔ ∀ m, n = some m → (t.tariffs[m]).isSome = true := by
  cases n with
  | none => simp [TariffSet.allows]
  | some m => simp [TariffSet.allows, TariffSet.present]

theorem TariffSet.tariffsOk_iff {t : TariffSet} {r : ZoneRule} : t.tariffsOk r = true ↔
    (∀ n, r.day = some n → (t.tariffs[n]).isSome = true) ∧ (∀ n, r.night = some n → (t.tariffs[n]).isSome = true) ∧
      ∀ n, r.holiday = some n → (t.tariffs[n]).isSome = true := by
  simp only [TariffSet.tariffsOk, Bool.and_eq_true, TariffSet.allows_iff, and_assoc]

theorem TariffSet.entryOk_iff {t : TariffSet} {r : ZoneRule} :
    t.entryOk r = true ↔ ∀ n, r.entryExtra = some n → ∃ k, t.extraKinds[n] = some k ∧ 1 ≤ k.amount := by
  unfold TariffSet.entryOk
  split
  · next h => simp [h]
  · next n h =>
    rw [h]
    split
    · next hk => exact ⟨nofun, fun hall => by obtain ⟨k, hk', -⟩ := hall n rfl; simp [hk] at hk'⟩
    · next k hk =>
      refine ⟨fun hk' m hm => ?_, fun hall => ?_⟩
      · cases hm
        exact ⟨k, hk, by simpa using hk'⟩
      · obtain ⟨k', hk', hamount⟩ := hall n rfl
        obtain rfl : k = k' := Option.some.inj (hk.symm.trans hk')
        simpa using hamount

/-! ## The first rule that fails a check (log 15) -/

theorem firstFailing_eq_none {ok : ZoneRule → Bool} (rules : List (Option ZoneRule)) (n : Nat) :
    firstFailing ok n rules = none ↔ ∀ r, some r ∈ rules → ok r = true := by
  induction rules generalizing n with
  | nil => simp [firstFailing]
  | cons x rules ih =>
    cases x with
    | none => simp [firstFailing, ih]
    | some r =>
      cases hr : ok r <;> simp [firstFailing, hr, ih]

theorem firstFailing_eq_some {ok : ZoneRule → Bool} (rules : List (Option ZoneRule)) (n i : Nat) {r : ZoneRule}
    (hr : rules[i]? = some (some r)) (hfails : ok r = false)
    (hfirst : ∀ j q, j < i → rules[j]? = some (some q) → ok q = true) :
    firstFailing ok n rules = some (n + i) := by
  induction rules generalizing n i with
  | nil => simp at hr
  | cons x rules ih =>
    cases i with
    | zero =>
      obtain rfl : x = some r := by simpa using hr
      simp [firstFailing, hfails]
    | succ i =>
      have hrest := ih (n + 1) i (by simpa using hr) fun j q hj hq => hfirst (j + 1) q (by omega) (by simpa using hq)
      rw [Nat.add_right_comm] at hrest
      cases x with
      | none => exact hrest
      | some q =>
        have hq : ok q = true := hfirst 0 q (by omega) rfl
        rw [firstFailing, if_pos hq, hrest, Nat.add_assoc]

/-- No rule of a set fails a check exactly when every rule passes it. -/
theorem TariffSet.noneFailing_iff {t : TariffSet} {ok : ZoneRule → Bool} :
    firstFailing ok 1 t.zoneRules.toArray.toList = none ↔
      ∀ (i : Fin 16) (r : ZoneRule), t.zoneRules[i] = some r → ok r = true := by
  rw [firstFailing_eq_none]
  refine ⟨fun h i r hr => h r ?_, fun h r hr => ?_⟩
  · rw [← hr]
    simp
  · obtain ⟨j, hj, hjr⟩ : ∃ (j : Nat) (hj : j < 16), t.zoneRules[j] = some r := by
      simpa [Vector.mem_iff_getElem] using hr
    exact h ⟨j, hj⟩ r hjr

/-- The rule of a set that fails a check, with every rule before it passing, is the one named. -/
theorem TariffSet.firstFailing_at {t : TariffSet} {ok : ZoneRule → Bool} {i : Fin 16}
    (hi : ∃ r, t.zoneRules[i] = some r ∧ ¬ok r = true)
    (hfirst : ∀ (j : Fin 16) (r : ZoneRule), j < i → t.zoneRules[j] = some r → ok r = true) :
    firstFailing ok 1 t.zoneRules.toArray.toList = some (i.val + 1) := by
  obtain ⟨r, hr, hfails⟩ := hi
  rw [firstFailing_eq_some _ 1 i (r := r) (by simpa using hr) (by simpa using hfails), Nat.add_comm]
  intro j q hj hq
  have hj16 : j < 16 := Nat.lt_trans hj i.isLt
  exact hfirst ⟨j, hj16⟩ q hj (by simpa [hj16] using hq)

/-! ## The commit (R25) -/

/-- Checks 1 and 2: tariff 1 and the three defaults are present. -/
def TariffSet.DefaultsOk (t : TariffSet) : Prop :=
  t.present 0 = true ∧ t.present t.defaultDay = true ∧ t.present t.defaultNight = true ∧
    t.present t.defaultHoliday = true

theorem TariffSet.defaultsOk_of_passing {t : TariffSet} (h : t.commitFailure = none) : t.DefaultsOk := by
  unfold TariffSet.commitFailure at h
  split at h
  · cases h
  split at h
  · cases h
  split at h
  · cases h
  split at h
  · cases h
  · simp_all [TariffSet.DefaultsOk]

theorem TariffSet.commitFailure_of_tariffs {t : TariffSet} (h : t.DefaultsOk) {n : Nat}
    (hn : firstFailing t.tariffsOk 1 t.zoneRules.toArray.toList = some n) : t.commitFailure = some (3, n) := by
  obtain ⟨h0, hday, hnight, hholiday⟩ := h
  simp [TariffSet.commitFailure, h0, hday, hnight, hholiday, hn]

theorem TariffSet.commitFailure_of_entries {t : TariffSet} (h : t.DefaultsOk)
    (ht : firstFailing t.tariffsOk 1 t.zoneRules.toArray.toList = none) {n : Nat}
    (hn : firstFailing t.entryOk 1 t.zoneRules.toArray.toList = some n) : t.commitFailure = some (4, n) := by
  obtain ⟨h0, hday, hnight, hholiday⟩ := h
  simp [TariffSet.commitFailure, h0, hday, hnight, hholiday, ht, hn]

theorem TariffSet.commitFailure_eq_none_iff {t : TariffSet} : t.commitFailure = none ↔
    t.DefaultsOk ∧ firstFailing t.tariffsOk 1 t.zoneRules.toArray.toList = none ∧
      firstFailing t.entryOk 1 t.zoneRules.toArray.toList = none := by
  refine ⟨fun h => ?_, fun ⟨⟨h0, hday, hnight, hholiday⟩, ht, he⟩ => ?_⟩
  · have hdef := TariffSet.defaultsOk_of_passing h
    have ht : firstFailing t.tariffsOk 1 t.zoneRules.toArray.toList = none := by
      refine Classical.byContradiction fun hx => ?_
      obtain ⟨n, hn⟩ := Option.ne_none_iff_exists'.mp hx
      simp [TariffSet.commitFailure_of_tariffs hdef hn] at h
    refine ⟨hdef, ht, ?_⟩
    refine Classical.byContradiction fun hx => ?_
    obtain ⟨n, hn⟩ := Option.ne_none_iff_exists'.mp hx
    simp [TariffSet.commitFailure_of_entries hdef ht hn] at h
  · simp [TariffSet.commitFailure, h0, hday, hnight, hholiday, ht, he]

/-- Settles O23: the two searches find no failing rule exactly when every rule passes, and otherwise the first that fails;
the presence checks come before them. -/
theorem commitChecksTheWholeSet : Obligations.CommitChecksTheWholeSet := by
  intro t here tariffs entry first defaults
  have htariffs (r : ZoneRule) : tariffs r ↔ t.tariffsOk r = true := TariffSet.tariffsOk_iff.symm
  have hentry (r : ZoneRule) : entry r ↔ t.entryOk r = true := TariffSet.entryOk_iff.symm
  have absent {n : TariffNo} (h : ¬here n) : t.present n = false := by simpa [here, TariffSet.present] using h
  refine ⟨?none, ?tariff1, ?day, ?night, ?holiday, fun hdef i ⟨hi, hbefore⟩ => ?rule,
    fun hdef hall i ⟨hi, hbefore⟩ => ?entryExtra⟩
  case none =>
    rw [TariffSet.commitFailure_eq_none_iff, TariffSet.noneFailing_iff, TariffSet.noneFailing_iff]
    simp only [htariffs, hentry, forall_and]
    exact Iff.rfl
  case tariff1 => exact fun h => by simp [TariffSet.commitFailure, absent h]
  case day => exact fun (h0 : t.present 0 = true) h => by simp [TariffSet.commitFailure, h0, absent h, periodCode]
  case night =>
    exact fun (h0 : t.present 0 = true) (hday : t.present _ = true) h => by
      simp [TariffSet.commitFailure, h0, hday, absent h, periodCode]
  case holiday =>
    exact fun (h0 : t.present 0 = true) (hday : t.present _ = true) (hnight : t.present _ = true) h => by
      simp [TariffSet.commitFailure, h0, hday, hnight, absent h, periodCode]
  case rule =>
    refine TariffSet.commitFailure_of_tariffs hdef (TariffSet.firstFailing_at ?_ fun j r hj hr => ?_)
    · simpa only [htariffs] using hi
    · exact (htariffs r).mp (hbefore j r hj hr)
  case entryExtra =>
    refine TariffSet.commitFailure_of_entries hdef ?_ (TariffSet.firstFailing_at ?_ fun j r hj hr => ?_)
    · exact TariffSet.noneFailing_iff.mpr fun j r hr => (htariffs r).mp (hall j r hr)
    · simpa only [hentry] using hi
    · exact (hentry r).mp (hbefore j r hj hr)

end Sys2Proof.Machine
end


section
/-! The counts of the journal across a completion (chapter 6). -/

namespace Sys2Proof.Machine

/-! ## A completion and the counts (R114) -/

/-- An append completes only out of a place. -/
theorem RecordStore.places_of_flying {j : RecordStore} {b : EntryBody} (h : j.flying = some b) :
    ∃ rest, j.places = b :: rest := by
  unfold RecordStore.flying at h
  split at h
  · exact List.head?_eq_some_iff.mp h
  · cases h

theorem RecordStore.complete_stored_length (j : RecordStore) (e : Entry) :
    (j.complete e).stored.length = j.stored.length + 1 := by
  simp [RecordStore.complete]

theorem RecordStore.complete_queued {j : RecordStore} {b : EntryBody} (e : Entry) (h : j.flying = some b) :
    (j.complete e).queued + 1 = j.queued := by
  obtain ⟨rest, hplaces⟩ := RecordStore.places_of_flying h
  simp only [RecordStore.queued, RecordStore.complete, hplaces, List.tail_cons, List.length_append, List.length_cons,
    List.length_take, List.length_drop]
  omega

theorem RecordStore.complete_free {j : RecordStore} {b : EntryBody} (e : Entry) (h : j.flying = some b)
    (_ : j.queued ≤ 256 - j.stored.length) (_ : j.nextSeq + j.queued ≤ 4294967296) :
    (j.complete e).free = j.free := by
  have hqueued := RecordStore.complete_queued e h
  have hstored := j.complete_stored_length e
  have hnext : (j.complete e).nextSeq = j.nextSeq + 1 := rfl
  simp only [RecordStore.free, hstored, hnext, Config.journalCapacity]
  omega

/-- APPEND_COMPLETE leaves the journal as it is, or completes the append in flight. -/
theorem exec_appendComplete_journal {s t : State} (h : exec .appendComplete s = .next t) :
    t.journal = s.journal ∨ ∃ b e, s.journal.flying = some b ∧ t.journal = s.journal.complete e := by
  obtain ⟨-, rfl⟩ | ⟨-, rfl⟩ := event_cases h
  · exact .inl rfl
  obtain ⟨-, h⟩ | ⟨b, hflying, h⟩ := appendComplete_cases s
  · exact .inl (by rw [h])
  · exact .inr ⟨b, _, hflying, by rw [h]; exact State.afterStored_frame _ _ .journal (by decide)⟩

/-- Settles O39: a completion moves one entry from the queue to the stored ones and takes the next number. -/
theorem completionKeepsTheFreeCount : Obligations.CompletionKeepsTheFreeCount := by
  intro s t h
  obtain hjournal | ⟨b, e, hflying, hjournal⟩ := exec_appendComplete_journal h
  · rw [hjournal]
    exact ⟨rfl, fun _ _ => rfl⟩
  · have hqueued := RecordStore.complete_queued e hflying
    have hstored := s.journal.complete_stored_length e
    rw [hjournal]
    exact ⟨by omega, RecordStore.complete_free e hflying⟩

end Sys2Proof.Machine
end


section
/-! What a refusal leaves (00 "Clamps and refusals"): a request answered ROLE, STATE, SEAL, BUSY, MOVING or LOCKED changes
no state but the port buffers. -/

namespace Sys2Proof.Machine

/-! ## The statuses that change nothing -/

/-- The statuses of a request that changes no state. -/
def Status.refuses : Status → Bool
  | .role | .state | .sealed | .busy | .moving | .locked => true
  | _ => false

/-- An answer with a status that refuses leaves the state as it was. -/
def Answer.KeepsRefused (s : State) (a : Answer) : Prop := a.status.refuses = true → a.state = s

@[simp] theorem refuse_keeps (s : State) (st : Status) : (refuse s st).KeepsRefused s := fun _ => rfl

@[simp] theorem Answer.KeepsRefused.same (s : State) (st : Status) (res : List Byte) :
    Answer.KeepsRefused s ⟨s, st, res⟩ := fun _ => rfl

/-- An answer with any other status may change the state. -/
theorem Answer.KeepsRefused.taken {s t : State} {st : Status} {res : List Byte} (h : st.refuses = false) :
    Answer.KeepsRefused s ⟨t, st, res⟩ := fun h' => absurd (h.symm.trans h') nofun

@[simp] theorem Answer.KeepsRefused.ok (s t : State) (res : List Byte) : Answer.KeepsRefused s ⟨t, .ok, res⟩ := taken rfl

@[simp] theorem Answer.KeepsRefused.range (s t : State) (res : List Byte) : Answer.KeepsRefused s ⟨t, .range, res⟩ :=
  taken rfl

@[simp] theorem Answer.KeepsRefused.full (s t : State) (res : List Byte) : Answer.KeepsRefused s ⟨t, .full, res⟩ :=
  taken rfl

@[simp] theorem Answer.KeepsRefused.conflict (s t : State) (res : List Byte) : Answer.KeepsRefused s ⟨t, .conflict, res⟩ :=
  taken rfl

@[simp] theorem Answer.KeepsRefused.clamped (s t : State) (res : List Byte) : Answer.KeepsRefused s ⟨t, .clamped, res⟩ :=
  taken rfl

@[simp] theorem Answer.KeepsRefused.unknown (s t : State) (res : List Byte) : Answer.KeepsRefused s ⟨t, .unknown, res⟩ :=
  taken rfl

/-- An answer that names what it clamps. -/
@[simp] theorem Answer.KeepsRefused.clampedUnless (s t : State) (p : Prop) [Decidable p] (res : List Byte) :
    Answer.KeepsRefused s ⟨t, if p then .ok else .clamped, res⟩ := taken (by split <;> rfl)

@[simp] theorem Answer.KeepsRefused.approved (s t : State) (p : Party) (amount : Nat) (res : List Byte) :
    Answer.KeepsRefused s ⟨t, approvalStatus p amount, res⟩ := taken (by unfold approvalStatus; split <;> rfl)

/-! ## The rules, one lemma each -/

theorem setStopInterlock_keeps (v : Nat) (s : State) : (setStopInterlock v s).KeepsRefused s := by
  unfold setStopInterlock
  (repeat' split) <;> simp

theorem calBeginFree_keeps (v : Nat) (s : State) : (calBeginFree v s).KeepsRefused s := by
  unfold calBeginFree
  (repeat' split) <;> simp

theorem calBegin_keeps (v : Nat) (s : State) : (calBegin v s).KeepsRefused s := by
  unfold calBegin
  (repeat' split) <;> simp [calBeginFree_keeps]

theorem calMark_keeps (s : State) : (calMark s).KeepsRefused s := by
  unfold calMark
  (repeat' split) <;> simp

theorem calAbort_keeps (s : State) : (calAbort s).KeepsRefused s := by
  unfold calAbort
  (repeat' split) <;> simp

theorem calAdopt_keeps (v : Nat) (s : State) : (calAdopt v s).KeepsRefused s := by
  unfold calAdopt
  (repeat' split) <;> simp [calAdoptTaken]

theorem tariffBegin_keeps (s : State) : (tariffBegin s).KeepsRefused s := by
  unfold tariffBegin
  (repeat' split) <;> simp

theorem tariffItem_keeps (k n f : Byte) (fields : BitVec 176) (s : State) : (tariffItem k n f fields s).KeepsRefused s := by
  unfold tariffItem
  (repeat' split) <;> simp

theorem tariffCommit_keeps (v : BitVec 16) (s : State) : (tariffCommit v s).KeepsRefused s := by
  unfold tariffCommit
  (repeat' split) <;> simp

theorem tariffRead_keeps (a k n : Byte) (s : State) : (tariffRead a k n s).KeepsRefused s := by
  unfold tariffRead
  (repeat' split) <;> simp

theorem setClock_keeps (v : Nat) (s : State) : (setClock v s).KeepsRefused s := by
  simp [setClock]

theorem setHoliday_keeps (v : Byte) (s : State) : (setHoliday v s).KeepsRefused s := by
  unfold setHoliday
  (repeat' split) <;> simp

theorem zoneReport_keeps (code : BitVec 16) (quality : Byte) (s : State) : (zoneReport code quality s).KeepsRefused s := by
  unfold zoneReport
  (repeat' split) <;> simp

theorem setZoneWatch_keeps (a b : Nat) (s : State) : (setZoneWatch a b s).KeepsRefused s := by
  unfold setZoneWatch
  (repeat' split) <;> simp

theorem startHire_keeps (pin : Byte) (s : State) : (startHire pin s).KeepsRefused s := by
  unfold startHire
  (repeat' split) <;> simp

theorem stopHire_keeps (slot : Byte) (s : State) : (stopHire slot s).KeepsRefused s := by
  unfold stopHire
  (repeat' split) <;> simp

theorem resumeHire_keeps (slot : Byte) (s : State) : (resumeHire slot s).KeepsRefused s := by
  unfold resumeHire
  (repeat' split) <;> simp

theorem addExtraScreened_keeps (i : Fin 4) (e : Extra) (s : State) : (addExtraScreened i e s).KeepsRefused s := by
  unfold addExtraScreened
  (repeat' split) <;> simp

theorem addExtra_keeps (p : Port) (slot kind : Byte) (amount : Nat) (s : State) :
    (addExtra p slot kind amount s).KeepsRefused s := by
  unfold addExtra
  (repeat' split) <;> simp [addExtraScreened_keeps]

theorem pinTariff_keeps (slot tariff : Byte) (s : State) : (pinTariff slot tariff s).KeepsRefused s := by
  unfold pinTariff
  (repeat' split) <;> simp

theorem readParty_keeps (slot : Byte) (s : State) : (readParty slot s).KeepsRefused s := by
  unfold readParty
  (repeat' split) <;> simp

theorem setDuty_keeps (v : Byte) (s : State) : (setDuty v s).KeepsRefused s := by
  unfold setDuty
  (repeat' split) <;> simp

theorem setOnCall_keeps (v : Byte) (s : State) : (setOnCall v s).KeepsRefused s := by
  unfold setOnCall
  (repeat' split) <;> simp

theorem setSeatLimit_keeps (v : Nat) (s : State) : (setSeatLimit v s).KeepsRefused s := by
  unfold setSeatLimit
  (repeat' split) <;> simp

theorem payOpen_keeps (slot : Byte) (s : State) : (payOpen slot s).KeepsRefused s := by
  unfold payOpen
  (repeat' split) <;> simp

theorem payTip_keeps (payment hire tip : Nat) (s : State) : (payTip payment hire tip s).KeepsRefused s := by
  unfold payTip
  (repeat' split) <;> simp [payTipTaken]

theorem pinState_keeps (v : Byte) (s : State) : (pinState v s).KeepsRefused s := by
  unfold pinState
  (repeat' split) <;> simp

theorem setPinGuard_keeps (v : Nat) (s : State) : (setPinGuard v s).KeepsRefused s := by
  unfold setPinGuard
  (repeat' split) <;> simp

theorem orphanOpen_keeps (x : Session) (offline : Bool) (amount reference : Nat) (s : State) :
    (orphanOpen x offline amount reference s).KeepsRefused s := by
  unfold orphanOpen
  (repeat' split) <;> simp

theorem approveOpen_keeps (x : Session) (offline : Bool) (amount reference : Nat) (s : State) :
    (approveOpen x offline amount reference s).KeepsRefused s := by
  unfold approveOpen
  (repeat' split) <;> simp [orphanOpen_keeps, applyOpen]

theorem orphanLate_keeps (found : Option RecentSession) (payment : Nat) (offline : Bool) (amount reference : Nat) (s : State) :
    (orphanLate found payment offline amount reference s).KeepsRefused s := by
  unfold orphanLate
  (repeat' split) <;> simp

theorem approveLate_keeps (payment hire : Nat) (offline : Bool) (amount reference : Nat) (s : State) :
    (approveLate payment hire offline amount reference s).KeepsRefused s := by
  unfold approveLate
  (repeat' split) <;> simp [orphanLate_keeps, applyLate]

theorem approval_keeps (payment hire : Nat) (offline : Bool) (amount reference : Nat) (s : State) :
    (approval payment hire offline amount reference s).KeepsRefused s := by
  unfold approval
  (repeat' split) <;> simp [approveOpen_keeps, approveLate_keeps]

theorem decline_keeps (payment hire : Nat) (declined : Bool) (s : State) :
    (decline payment hire declined s).KeepsRefused s := by
  unfold decline
  (repeat' split) <;> simp [declineOpen]

theorem payResult_keeps (payment hire : Nat) (outcome : Byte) (amount reference : Nat) (s : State) :
    (payResult payment hire outcome amount reference s).KeepsRefused s := by
  unfold payResult
  (repeat' split) <;> simp [approval_keeps, decline_keeps]

theorem cashSettle_keeps (slot : Byte) (amount : Nat) (s : State) : (cashSettle slot amount s).KeepsRefused s := by
  unfold cashSettle
  (repeat' split) <;> simp [cashTaken]

theorem journalRead_keeps (v : Nat) (s : State) : (journalRead v s).KeepsRefused s := by
  unfold journalRead
  (repeat' split) <;> simp

theorem journalAck_keeps (v : Nat) (s : State) : (journalAck v s).KeepsRefused s := by
  unfold journalAck
  (repeat' split) <;> simp

theorem shiftOpen_keeps (v : Nat) (s : State) : (shiftOpen v s).KeepsRefused s := by
  unfold shiftOpen
  (repeat' split) <;> simp

theorem shiftClose_keeps (s : State) : (shiftClose s).KeepsRefused s := by
  unfold shiftClose
  (repeat' split) <;> simp

theorem shiftPreview_keeps (s : State) : (shiftPreview s).KeepsRefused s := by
  unfold shiftPreview
  (repeat' split) <;> simp

theorem setCommission_keeps (v : Nat) (s : State) : (setCommission v s).KeepsRefused s := by
  unfold setCommission
  (repeat' split) <;> simp

theorem setOfflineCap_keeps (v : Nat) (s : State) : (setOfflineCap v s).KeepsRefused s := by
  unfold setOfflineCap
  (repeat' split) <;> simp

theorem setTipCap_keeps (v : Nat) (s : State) : (setTipCap v s).KeepsRefused s := by
  unfold setTipCap
  (repeat' split) <;> simp

theorem setHoldLimit_keeps (v : Nat) (s : State) : (setHoldLimit v s).KeepsRefused s := by
  unfold setHoldLimit
  (repeat' split) <;> simp

theorem setBrightness_keeps (a b : Nat) (s : State) : (setBrightness a b s).KeepsRefused s := by
  unfold setBrightness
  (repeat' split) <;> simp

theorem lampTest_keeps (a b c d : Byte) (s : State) : (lampTest a b c d s).KeepsRefused s := by
  unfold lampTest
  (repeat' split) <;> simp

theorem lampClear_keeps (s : State) : (lampClear s).KeepsRefused s := by
  simp [lampClear]

theorem setPathGain_keeps (path : Byte) (gain delay : Nat) (s : State) : (setPathGain path gain delay s).KeepsRefused s := by
  unfold setPathGain
  (repeat' split) <;> simp

theorem setIntercomMode_keeps (v : Byte) (s : State) : (setIntercomMode v s).KeepsRefused s := by
  unfold setIntercomMode
  (repeat' split) <;> simp

theorem setIntercomMute_keeps (a b : Byte) (s : State) : (setIntercomMute a b s).KeepsRefused s := by
  unfold setIntercomMute
  (repeat' split) <;> simp

theorem setTalkOverride_keeps (v : Byte) (s : State) : (setTalkOverride v s).KeepsRefused s := by
  unfold setTalkOverride
  (repeat' split) <;> simp

theorem playTone_keeps (a b : Byte) (s : State) : (playTone a b s).KeepsRefused s := by
  unfold playTone
  split
  · dsimp only
    split <;> simp
  · simp

theorem readNotices_keeps (p : Port) (v : Byte) (s : State) : (readNotices p v s).KeepsRefused s := by
  unfold readNotices
  (repeat' split) <;> simp

theorem clearNotices_keeps (p : Port) (v : BitVec 32) (s : State) : (clearNotices p v s).KeepsRefused s := by
  unfold clearNotices
  (repeat' split) <;> simp

theorem setNoticeEnable_keeps (p : Port) (v : BitVec 32) (s : State) : (setNoticeEnable p v s).KeepsRefused s := by
  unfold setNoticeEnable
  (repeat' split) <;> simp

theorem setRoute_keeps (a b : Byte) (s : State) : (setRoute a b s).KeepsRefused s := by
  unfold setRoute
  (repeat' split) <;> simp

theorem postMessage_keeps (p : Port) (target : Byte) (text : List Byte) (s : State) :
    (postMessage p target text s).KeepsRefused s := by
  unfold postMessage
  split
  · simp
  · split
    · simp
    · split
      · simp
      · dsimp only
        split <;> simp

theorem takeMessage_keeps (p : Port) (s : State) : (takeMessage p s).KeepsRefused s := by
  unfold takeMessage
  (repeat' split) <;> simp

/-! ## Every request -/

/-- A request's rule keeps what a refusal keeps. -/
theorem exec_request_keeps {c : Instr} {p : Port} {k : Kind} {ps : List Byte} (h : c.request? = some (p, k, ps)) :
    ∃ body : State → Answer, ∀ s, exec c s = request p k body s ∧ (body s).KeepsRefused s := by
  cases c <;> simp only [Instr.request?, Option.some.injEq, Prod.mk.injEq, reduceCtorEq] at h <;> obtain ⟨rfl, rfl, -⟩ := h
  case readMotion => exact ⟨_, fun s => ⟨rfl, .same s _ _⟩⟩
  case setStopInterlock => exact ⟨_, fun s => ⟨rfl, setStopInterlock_keeps _ s⟩⟩
  case calBegin => exact ⟨_, fun s => ⟨rfl, calBegin_keeps _ s⟩⟩
  case calMark => exact ⟨_, fun s => ⟨rfl, calMark_keeps s⟩⟩
  case calAbort => exact ⟨_, fun s => ⟨rfl, calAbort_keeps s⟩⟩
  case calAdopt => exact ⟨_, fun s => ⟨rfl, calAdopt_keeps _ s⟩⟩
  case tariffBegin => exact ⟨_, fun s => ⟨rfl, tariffBegin_keeps s⟩⟩
  case tariffItem => exact ⟨_, fun s => ⟨rfl, tariffItem_keeps _ _ _ _ s⟩⟩
  case tariffCommit => exact ⟨_, fun s => ⟨rfl, tariffCommit_keeps _ s⟩⟩
  case tariffRead => exact ⟨_, fun s => ⟨rfl, tariffRead_keeps _ _ _ s⟩⟩
  case setClock => exact ⟨_, fun s => ⟨rfl, setClock_keeps _ s⟩⟩
  case setHoliday => exact ⟨_, fun s => ⟨rfl, setHoliday_keeps _ s⟩⟩
  case zoneReport => exact ⟨_, fun s => ⟨rfl, zoneReport_keeps _ _ s⟩⟩
  case setZoneWatch => exact ⟨_, fun s => ⟨rfl, setZoneWatch_keeps _ _ s⟩⟩
  case tariffStatus => exact ⟨_, fun s => ⟨rfl, .same s _ _⟩⟩
  case startHire => exact ⟨_, fun s => ⟨rfl, startHire_keeps _ s⟩⟩
  case stopHire => exact ⟨_, fun s => ⟨rfl, stopHire_keeps _ s⟩⟩
  case resumeHire => exact ⟨_, fun s => ⟨rfl, resumeHire_keeps _ s⟩⟩
  case addExtra => exact ⟨_, fun s => ⟨rfl, addExtra_keeps _ _ _ _ s⟩⟩
  case pinTariff => exact ⟨_, fun s => ⟨rfl, pinTariff_keeps _ _ s⟩⟩
  case readParty => exact ⟨_, fun s => ⟨rfl, readParty_keeps _ s⟩⟩
  case listParties => exact ⟨_, fun s => ⟨rfl, .same s _ _⟩⟩
  case setDuty => exact ⟨_, fun s => ⟨rfl, setDuty_keeps _ s⟩⟩
  case setOnCall => exact ⟨_, fun s => ⟨rfl, setOnCall_keeps _ s⟩⟩
  case setSeatLimit => exact ⟨_, fun s => ⟨rfl, setSeatLimit_keeps _ s⟩⟩
  case payOpen => exact ⟨_, fun s => ⟨rfl, payOpen_keeps _ s⟩⟩
  case payTip => exact ⟨_, fun s => ⟨rfl, payTip_keeps _ _ _ s⟩⟩
  case pinState => exact ⟨_, fun s => ⟨rfl, pinState_keeps _ s⟩⟩
  case setPinGuard => exact ⟨_, fun s => ⟨rfl, setPinGuard_keeps _ s⟩⟩
  case payResult => exact ⟨_, fun s => ⟨rfl, payResult_keeps _ _ _ _ _ s⟩⟩
  case cashSettle => exact ⟨_, fun s => ⟨rfl, cashSettle_keeps _ _ s⟩⟩
  case readPayment => exact ⟨_, fun s => ⟨rfl, .same s _ _⟩⟩
  case journalRead => exact ⟨_, fun s => ⟨rfl, journalRead_keeps _ s⟩⟩
  case journalAck => exact ⟨_, fun s => ⟨rfl, journalAck_keeps _ s⟩⟩
  case journalStatus => exact ⟨_, fun s => ⟨rfl, .same s _ _⟩⟩
  case shiftOpen => exact ⟨_, fun s => ⟨rfl, shiftOpen_keeps _ s⟩⟩
  case shiftClose => exact ⟨_, fun s => ⟨rfl, shiftClose_keeps s⟩⟩
  case shiftPreview => exact ⟨_, fun s => ⟨rfl, shiftPreview_keeps s⟩⟩
  case setCommission => exact ⟨_, fun s => ⟨rfl, setCommission_keeps _ s⟩⟩
  case setOfflineCap => exact ⟨_, fun s => ⟨rfl, setOfflineCap_keeps _ s⟩⟩
  case setTipCap => exact ⟨_, fun s => ⟨rfl, setTipCap_keeps _ s⟩⟩
  case setHoldLimit => exact ⟨_, fun s => ⟨rfl, setHoldLimit_keeps _ s⟩⟩
  case readTotalizers => exact ⟨_, fun s => ⟨rfl, .same s _ _⟩⟩
  case setBrightness => exact ⟨_, fun s => ⟨rfl, setBrightness_keeps _ _ s⟩⟩
  case lampTest => exact ⟨_, fun s => ⟨rfl, lampTest_keeps _ _ _ _ s⟩⟩
  case lampClear => exact ⟨_, fun s => ⟨rfl, lampClear_keeps s⟩⟩
  case readSign => exact ⟨_, fun s => ⟨rfl, .same s _ _⟩⟩
  case setPathGain => exact ⟨_, fun s => ⟨rfl, setPathGain_keeps _ _ _ s⟩⟩
  case setIntercomMode => exact ⟨_, fun s => ⟨rfl, setIntercomMode_keeps _ s⟩⟩
  case setIntercomMute => exact ⟨_, fun s => ⟨rfl, setIntercomMute_keeps _ _ s⟩⟩
  case setTalkOverride => exact ⟨_, fun s => ⟨rfl, setTalkOverride_keeps _ s⟩⟩
  case playTone => exact ⟨_, fun s => ⟨rfl, playTone_keeps _ _ s⟩⟩
  case readIntercom => exact ⟨_, fun s => ⟨rfl, .same s _ _⟩⟩
  case readNotices => exact ⟨_, fun s => ⟨rfl, readNotices_keeps _ _ s⟩⟩
  case clearNotices => exact ⟨_, fun s => ⟨rfl, clearNotices_keeps _ _ s⟩⟩
  case setNoticeEnable => exact ⟨_, fun s => ⟨rfl, setNoticeEnable_keeps _ _ s⟩⟩
  case readRoutes => exact ⟨_, fun s => ⟨rfl, .same s _ _⟩⟩
  case setRoute => exact ⟨_, fun s => ⟨rfl, setRoute_keeps _ _ s⟩⟩
  case postMessage => exact ⟨_, fun s => ⟨rfl, postMessage_keeps _ _ _ s⟩⟩
  case takeMessage => exact ⟨_, fun s => ⟨rfl, takeMessage_keeps _ s⟩⟩

/-- The statuses have bytes of their own, so a reply frame tells its status. -/
theorem Status.byte_inj (a b : Status) : BitVec.ofNat 8 a.code = BitVec.ofNat 8 b.code → a = b := by
  cases a <;> cases b <;> decide

theorem replyFrame_status {a b : Status} {k l : Nat} {r q : List Byte} (h : replyFrame a k r = replyFrame b l q) : a = b := by
  rw [replyFrame_bytes, replyFrame_bytes] at h
  exact Status.byte_inj a b (List.cons.inj h).1

/-- Settles O7: the frame at the port tells the status of the answer, and an answer that refuses left the state as it was. -/
theorem refusedRequestsChangeNothing : Obligations.RefusedRequestsChangeNothing := by
  intro c p k ps s t st res hreq hexec hreply hst
  obtain ⟨body, hbody⟩ := exec_request_keeps hreq
  obtain ⟨heq, hkeeps⟩ := hbody s
  have hrefuses : st.refuses = true := by obtain rfl | rfl | rfl | rfl | rfl | rfl := hst <;> rfl
  obtain ⟨-, rfl⟩ | ⟨-, -, rfl⟩ | ⟨-, -, rfl⟩ := request_cases (heq.symm.trans hexec)
  · rfl
  · rfl
  · rw [State.putReply_reply] at hreply
    obtain rfl : (body s).status = st := replyFrame_status (congrArg Reply.frame (Option.some.inj hreply))
    rw [hkeeps hrefuses]
    rfl

end Sys2Proof.Machine
end


section
/-! The restore of chapter 6: what it makes of each slot, as one verdict that depends on the slot alone, and of the shift. -/

namespace Sys2Proof.Machine

/-! ## The verdict on a slot (R123, R124) -/

/-- What the restore makes of a slot: the record it leaves there, the entry it queues again, the trip it counts. -/
structure Verdict where
  party : Option Party
  queued : List EntryBody
  counted : List TripEntry

/-- The verdict on a slot (R123, R124). -/
def State.verdict (s : State) (i : Fin 4) : Verdict :=
  match s.party i with
  | none => ⟨none, [], []⟩
  | some p =>
    if p.state = .closing then
      match s.journal.newestTrip with
      | none => ⟨some p, [.trip (tripEntry s.meas.cal.k i p)], []⟩
      | some t =>
        if t.hire = p.hire then ⟨none, [], if p.counted then [] else [t]⟩
        else ⟨some p, [.trip (tripEntry s.meas.cal.k i p)], []⟩
    else ⟨some (p.restored s.store.now), [], []⟩

section Verdicts

variable {s : State} {i : Fin 4} {p : Party}

theorem State.verdict_vacant (h : s.party i = none) : s.verdict i = ⟨none, [], []⟩ := by
  simp only [State.verdict, h]

theorem State.verdict_open (h : s.party i = some p) (hstate : p.state ≠ .closing) :
    s.verdict i = ⟨some (p.restored s.store.now), [], []⟩ := by
  simp only [State.verdict, h, if_neg hstate]

/-- A CLOSING slot whose entry is the newest stored TRIP entry. -/
theorem State.verdict_stored {t : TripEntry} (h : s.party i = some p) (hstate : p.state = .closing)
    (htrip : s.journal.newestTrip = some t) (hhire : t.hire = p.hire) :
    s.verdict i = ⟨none, [], if p.counted then [] else [t]⟩ := by
  simp only [State.verdict, h, if_pos hstate, htrip, if_pos hhire]

/-- A CLOSING slot with another newest TRIP entry, or none. -/
theorem State.verdict_requeued (h : s.party i = some p) (hstate : p.state = .closing)
    (hother : s.journal.newestTrip.map (·.hire) ≠ some p.hire) :
    s.verdict i = ⟨some p, [.trip (tripEntry s.meas.cal.k i p)], []⟩ := by
  simp only [State.verdict, h, if_pos hstate]
  split
  · rfl
  · next t ht =>
    have hhire : t.hire ≠ p.hire := fun he => hother (by rw [ht, Option.map_some, he])
    rw [if_neg hhire]

theorem State.verdict_congr {t : State} (hparty : t.party i = s.party i) (hstored : t.journal.stored = s.journal.stored)
    (hstore : t.store = s.store) (hmeas : t.meas = s.meas) : t.verdict i = s.verdict i := by
  have htrip : t.journal.newestTrip = s.journal.newestTrip := by simp only [RecordStore.newestTrip, hstored]
  simp only [State.verdict, hparty, htrip, hstore, hmeas]

/-- A slot queues at most one entry again, and of its own. -/
theorem State.verdict_queued (s : State) (i : Fin 4) : (s.verdict i).queued = [] ∨
    ∃ p, s.party i = some p ∧ p.state = .closing ∧ (s.verdict i).queued = [.trip (tripEntry s.meas.cal.k i p)] := by
  unfold State.verdict
  split
  · exact .inl rfl
  · next p hp =>
    split
    · next hclosing =>
      split
      · exact .inr ⟨p, hp, hclosing, rfl⟩
      · split
        · exact .inl rfl
        · exact .inr ⟨p, hp, hclosing, rfl⟩
    · exact .inl rfl

theorem State.verdict_queued_length (s : State) (i : Fin 4) : (s.verdict i).queued.length ≤ 1 := by
  obtain h | ⟨p, -, -, h⟩ := s.verdict_queued i <;> simp [h]

/-- Without an uncounted CLOSING slot of the newest TRIP entry, nothing is counted. -/
theorem State.verdict_counted_nil (h : ∀ x, s.party i = some x → x.state = .closing → x.counted = false →
    s.journal.newestTrip.map (·.hire) ≠ some x.hire) : (s.verdict i).counted = [] := by
  unfold State.verdict
  split
  · rfl
  · next p hp =>
    split
    · next hclosing =>
      split
      · rfl
      · next t ht =>
        split
        · next hhire =>
          cases hcounted : p.counted with
          | true => rfl
          | false => exact absurd (by rw [ht, Option.map_some, hhire]) (h p hp hclosing hcounted)
        · rfl
    · rfl

end Verdicts

/-! ## The slots in number order -/

/-- One slot restored is its verdict carried out. -/
theorem State.restoreSlot_eq (s : State) (i : Fin 4) : s.restoreSlot i = { s with
    table := { s.table with slots := s.table.slots.set i (s.verdict i).party }
    journal := (s.verdict i).queued.foldl RecordStore.append s.journal
    shift := (s.verdict i).counted.foldl Shift.countTrip s.shift } := by
  have hself (o : Option Party) (h : s.party i = o) : s.table.slots.set i o = s.table.slots := by
    subst h
    exact Vector.set_getElem_self _
  obtain ⟨p, t, hparty, hclosing, htrip, hhire, he⟩ | ⟨p, hparty, hclosing, hother, he⟩ | ⟨p, hparty, hopen, he⟩ |
    ⟨hparty, he⟩ := s.restoreSlot_cases i <;> rw [he]
  · rw [State.verdict_stored hparty hclosing htrip hhire]
    cases p.counted <;> rfl
  · rw [State.verdict_requeued hparty hclosing hother, hself _ hparty]
    rfl
  · rw [State.verdict_open hparty hopen]
    rfl
  · rw [State.verdict_vacant hparty, hself _ hparty]
    rfl

theorem RecordStore.appends_stored (j : RecordStore) (l : List EntryBody) :
    (l.foldl RecordStore.append j).stored = j.stored ∧ (l.foldl RecordStore.append j).nextSeq = j.nextSeq ∧
      (l.foldl RecordStore.append j).inFlight = j.inFlight := by
  induction l generalizing j with
  | nil => exact ⟨rfl, rfl, rfl⟩
  | cons b l ih =>
    obtain ⟨hstored, hseq, hflight⟩ := j.append_stored b
    obtain ⟨hstored', hseq', hflight'⟩ := ih (j.append b)
    exact ⟨hstored'.trans hstored, hseq'.trans hseq, hflight'.trans hflight⟩

/-- Entries that find a free place each take one (R113). -/
theorem RecordStore.appends_places (j : RecordStore) (l : List EntryBody) (h : j.places.length + l.length ≤ 4) :
    l.foldl RecordStore.append j = { j with places := j.places ++ l } := by
  induction l generalizing j with
  | nil => simp
  | cons b l ih =>
    rw [List.length_cons] at h
    have happend : j.append b = { j with places := j.places ++ [b] } := if_pos (by simp only [Config.appendPlaces]; omega)
    rw [List.foldl_cons, happend, ih _ (by simp only [List.length_append, List.length_cons, List.length_nil]; omega)]
    simp

theorem State.restoreSlot_party_self (s : State) (i : Fin 4) : (s.restoreSlot i).party i = (s.verdict i).party := by
  rw [State.restoreSlot_eq]
  exact Vector.getElem_set_self _

theorem State.restoreSlot_party_other (s : State) {i j : Fin 4} (h : i ≠ j) : (s.restoreSlot i).party j = s.party j := by
  rw [State.restoreSlot_eq]
  exact Vector.getElem_set_ne i.isLt j.isLt (fun he => h (Fin.ext he))

theorem State.verdict_restoreSlot (s : State) {i j : Fin 4} (h : i ≠ j) : (s.restoreSlot i).verdict j = s.verdict j := by
  refine State.verdict_congr (s.restoreSlot_party_other h) ?_ (s.restoreSlot_frame i .store (by decide))
    (s.restoreSlot_frame i .meas (by decide))
  rw [State.restoreSlot_eq]
  exact (s.journal.appends_stored _).1

/-- The four slots restored in number order. -/
def State.restoreSlots (s : State) : State := (((s.restoreSlot 0).restoreSlot 1).restoreSlot 2).restoreSlot 3

theorem State.restore_eq (s : State) : s.restore = s.restoreSlots.restoreShift.countInterruption := rfl

/-- The entries that the slots queue again, in slot order. -/
def State.requeued (s : State) : List EntryBody :=
  (s.verdict 0).queued ++ (s.verdict 1).queued ++ (s.verdict 2).queued ++ (s.verdict 3).queued

/-- The trips that the slots count, in slot order. -/
def State.recounted (s : State) : List TripEntry :=
  (s.verdict 0).counted ++ (s.verdict 1).counted ++ (s.verdict 2).counted ++ (s.verdict 3).counted

/-- The verdict on each slot is the one at the restore's start. -/
theorem State.verdict_restoring (s : State) : (s.restoreSlot 0).verdict 1 = s.verdict 1 ∧
    ((s.restoreSlot 0).restoreSlot 1).verdict 2 = s.verdict 2 ∧
    (((s.restoreSlot 0).restoreSlot 1).restoreSlot 2).verdict 3 = s.verdict 3 := by
  refine ⟨s.verdict_restoreSlot (by decide), ?_, ?_⟩
  · rw [State.verdict_restoreSlot _ (by decide), State.verdict_restoreSlot _ (by decide)]
  · rw [State.verdict_restoreSlot _ (by decide), State.verdict_restoreSlot _ (by decide),
      State.verdict_restoreSlot _ (by decide)]

theorem State.restoreSlots_party (s : State) (i : Fin 4) : s.restoreSlots.party i = (s.verdict i).party := by
  obtain ⟨h1, h2, h3⟩ := s.verdict_restoring
  have other {u : State} {j : Fin 4} (h : j ≠ i) : (u.restoreSlot j).party i = u.party i := u.restoreSlot_party_other h
  unfold State.restoreSlots
  match i with
  | 0 => rw [other (by decide), other (by decide), other (by decide), State.restoreSlot_party_self]
  | 1 => rw [other (by decide), other (by decide), State.restoreSlot_party_self, h1]
  | 2 => rw [other (by decide), State.restoreSlot_party_self, h2]
  | 3 => rw [State.restoreSlot_party_self, h3]

theorem State.restoreSlots_journal (s : State) :
    s.restoreSlots.journal = s.requeued.foldl RecordStore.append s.journal := by
  obtain ⟨h1, h2, h3⟩ := s.verdict_restoring
  have slot (u : State) (i : Fin 4) :
      (u.restoreSlot i).journal = (u.verdict i).queued.foldl RecordStore.append u.journal := by rw [State.restoreSlot_eq]
  simp only [State.restoreSlots, State.requeued, slot, h1, h2, h3, List.foldl_append]

theorem State.restoreSlots_shift (s : State) : s.restoreSlots.shift = s.recounted.foldl Shift.countTrip s.shift := by
  obtain ⟨h1, h2, h3⟩ := s.verdict_restoring
  have slot (u : State) (i : Fin 4) :
      (u.restoreSlot i).shift = (u.verdict i).counted.foldl Shift.countTrip u.shift := by rw [State.restoreSlot_eq]
  simp only [State.restoreSlots, State.recounted, slot, h1, h2, h3, List.foldl_append]

theorem State.restoreSlots_table (s : State) : s.restoreSlots.table = { s.table with slots := s.restoreSlots.table.slots } := by
  have slot (u : State) (i : Fin 4) : (u.restoreSlot i).table = { u.table with slots := (u.restoreSlot i).table.slots } := by
    rw [State.restoreSlot_eq]
  unfold State.restoreSlots
  rw [slot, slot ((s.restoreSlot 0).restoreSlot 1), slot (s.restoreSlot 0), slot s]

theorem State.restoreSlots_frame (s : State) : ChangesOnly [.table, .journal, .shift] s s.restoreSlots :=
  ((((s.restoreSlot_frame 0).trans (State.restoreSlot_frame _ 1)).trans (State.restoreSlot_frame _ 2)).trans
    (State.restoreSlot_frame _ 3)).mono (by decide)

theorem State.requeued_length (s : State) : s.requeued.length ≤ 4 := by
  have h0 := s.verdict_queued_length 0
  have h1 := s.verdict_queued_length 1
  have h2 := s.verdict_queued_length 2
  have h3 := s.verdict_queued_length 3
  simp only [State.requeued, List.length_append]
  omega

theorem State.mem_requeued {s : State} {b : EntryBody} : b ∈ s.requeued ↔ ∃ i, b ∈ (s.verdict i).queued := by
  simp only [State.requeued, List.mem_append]
  refine ⟨?_, fun ⟨i, h⟩ => ?_⟩
  · rintro (((h | h) | h) | h)
    · exact ⟨0, h⟩
    · exact ⟨1, h⟩
    · exact ⟨2, h⟩
    · exact ⟨3, h⟩
  · match i with
    | 0 => exact .inl (.inl (.inl h))
    | 1 => exact .inl (.inl (.inr h))
    | 2 => exact .inl (.inr h)
    | 3 => exact .inr h

theorem State.recounted_nil {s : State} (h : ∀ i, (s.verdict i).counted = []) : s.recounted = [] := by
  simp [State.recounted, h]

/-! ## What the counting of trips leaves of the shift (R129, R131) -/

/-- A shift after the counting of trips: only its counters, the limit-reached flag and the totalizers may have moved, and
the first two in an OPEN shift alone. -/
structure Shift.Counted (u v : Shift) : Prop where
  frame : v = { u with counters := v.counters, limitReached := v.limitReached, totals := v.totals }
  unopened : u.state ≠ .opened → v.counters = u.counters ∧ v.limitReached = u.limitReached
  interruptions : v.counters.powerInterruptions = u.counters.powerInterruptions

theorem Shift.countTrip_counted (u : Shift) (e : TripEntry) : u.Counted (u.countTrip e) := by
  unfold Shift.countTrip Shift.gain
  split
  · next h => exact ⟨rfl, fun hn => absurd h hn, rfl⟩
  · next h => exact ⟨rfl, fun _ => by simp [h], rfl⟩

theorem Shift.countTrips_counted (u : Shift) (l : List TripEntry) : u.Counted (l.foldl Shift.countTrip u) := by
  induction l generalizing u with
  | nil => exact ⟨rfl, fun _ => ⟨rfl, rfl⟩, rfl⟩
  | cons e l ih =>
    obtain ⟨hframe, hunopened, hinterruptions⟩ := u.countTrip_counted e
    obtain ⟨hframe', hunopened', hinterruptions'⟩ := ih (u.countTrip e)
    have hstate : (u.countTrip e).state = u.state := (u.countTrip_state e).1
    refine ⟨?_, fun h => ?_, hinterruptions'.trans hinterruptions⟩
    · rw [List.foldl_cons, hframe', hframe]
    · obtain ⟨hc, hl⟩ := hunopened h
      obtain ⟨hc', hl'⟩ := hunopened' (by rwa [hstate])
      exact ⟨hc'.trans hc, hl'.trans hl⟩

/-! ## The shift's verdict (R125) -/

/-- The newest stored SHIFT entry is that of the shift. -/
def State.shiftStored (s : State) : Prop :=
  s.shift.state = .closing ∧ ∃ r time, s.journal.newestShift = some (r, time) ∧ s.shift.number = some r.number

theorem State.restoreShift_open {s : State} (h : s.shift.state ≠ .closing) : s.restoreShift = s := if_neg h

theorem State.restoreShift_stored {s : State} {r : ShiftReport} {time : Stamp} (h : s.shift.state = .closing)
    (hnewest : s.journal.newestShift = some (r, time)) (hnumber : s.shift.number = some r.number) :
    s.restoreShift = ({ s with shift := s.shift.closeAt time } : State).raise .shiftClosed := by
  simp only [State.restoreShift, if_pos h, hnewest, if_pos hnumber]

theorem State.restoreShift_requeued {s : State} (h : s.shift.state = .closing) (hother : ¬s.shiftStored) :
    s.restoreShift = { s with journal := s.journal.append (.shift (s.shift.report (s.shift.number.getD 0)
      (s.shift.closingK.getD s.meas.cal.k) (s.shift.closingRate.getD 0) none)) } := by
  simp only [State.restoreShift, if_pos h]
  split
  · rfl
  · next r time hnewest => exact if_neg fun hnumber => hother ⟨h, r, time, hnewest, hnumber⟩

end Sys2Proof.Machine
end


section
/-! The restart (chapter 6): what it makes of the parties, the journal, the shift and every volatile value. -/

namespace Sys2Proof.Machine

/-! ## The part when its slots have been judged -/

/-- The part at a restart, its slots restored (R123, R124). -/
def State.judged (s : State) (levels : InputLevels) (backup : Backup) : State := (s.wake levels backup).restoreSlots

theorem restart_eq (levels : InputLevels) (backup : Backup) (s : State) :
    restart levels backup s = (s.judged levels backup).restoreShift.countInterruption.firstSign := rfl

theorem exec_restart (levels : InputLevels) (backup : Backup) (s : State) :
    exec (.restart levels backup) s = .next (restart levels backup s) := rfl

section Judged

variable (levels : InputLevels) (backup : Backup) (s : State)

theorem State.wake_party (i : Fin 4) : (s.wake levels backup).party i = s.party i := rfl

theorem State.wake_journal : (s.wake levels backup).journal = s.journal.restarted := rfl

theorem State.wake_shift : (s.wake levels backup).shift = s.shift := rfl

theorem State.wake_newestTrip : (s.wake levels backup).journal.newestTrip = s.journal.newestTrip := rfl

theorem State.wake_k : (s.wake levels backup).meas.cal.k = s.meas.cal.k := rfl

theorem State.judged_party (i : Fin 4) :
    (s.judged levels backup).party i = ((s.wake levels backup).verdict i).party :=
  (s.wake levels backup).restoreSlots_party i

theorem State.judged_journal : (s.judged levels backup).journal =
    { s.journal.restarted with places := (s.wake levels backup).requeued } := by
  rw [State.judged, State.restoreSlots_journal, State.wake_journal, RecordStore.appends_places]
  · rfl
  · exact Nat.le_trans (Nat.le_of_eq (Nat.zero_add _)) (State.requeued_length _)

theorem State.judged_counted : s.shift.Counted (s.judged levels backup).shift := by
  rw [State.judged, State.restoreSlots_shift]
  exact Shift.countTrips_counted _ _

theorem State.judged_shift_state : (s.judged levels backup).shift.state = s.shift.state ∧
    (s.judged levels backup).shift.number = s.shift.number := by
  rw [(s.judged_counted levels backup).frame]
  exact ⟨rfl, rfl⟩

theorem State.judged_table : (s.judged levels backup).table = { s.table with slots := (s.judged levels backup).table.slots } :=
  (s.wake levels backup).restoreSlots_table

theorem State.judged_newestShift : (s.judged levels backup).journal.newestShift = s.journal.newestShift := by
  rw [State.judged_journal]; rfl

theorem State.judged_shiftStored : (s.judged levels backup).shiftStored ↔ s.shiftStored := by
  obtain ⟨hstate, hnumber⟩ := s.judged_shift_state levels backup
  simp only [State.shiftStored, hstate, hnumber, State.judged_newestShift]

theorem State.judged_notices : (s.judged levels backup).notices = s.dropVolatile.notices :=
  (s.wake levels backup).restoreSlots_frame .notices (by decide)

theorem State.judged_k : (s.judged levels backup).meas.cal.k = s.meas.cal.k := by
  have h : (s.judged levels backup).meas = (s.wake levels backup).meas :=
    (s.wake levels backup).restoreSlots_frame .meas (by decide)
  rw [h, State.wake_k]

end Judged

/-! ## The parts that the end of a restart leaves -/

theorem State.restoreShift_table (s : State) : s.restoreShift.table = s.table := by
  obtain ⟨-, h⟩ | ⟨_, _, -, -, -, h⟩ | ⟨-, -, _, h⟩ := s.restoreShift_cases <;> rw [h]
  rfl

/-- The interruption counted in an OPEN shift (R126). -/
def Shift.interrupted (u : Shift) : Shift :=
  u.gain fun c => { c with powerInterruptions := satAdd max32 c.powerInterruptions 1 }

theorem Shift.interrupted_open {u : Shift} (h : u.state = .opened) : u.interrupted =
    { u with counters := { u.counters with powerInterruptions := min max32 (u.counters.powerInterruptions + 1) } } :=
  if_pos h

theorem Shift.interrupted_unopened {u : Shift} (h : u.state ≠ .opened) : u.interrupted = u := if_neg h

theorem State.countInterruption_shift (s : State) : s.countInterruption.shift = s.shift.interrupted := rfl

theorem State.countInterruption_table (s : State) : s.countInterruption.table = s.table := rfl

theorem State.countInterruption_journal (s : State) : s.countInterruption.journal = s.journal := rfl

theorem State.firstSign_shift (s : State) : s.firstSign.shift = s.shift := rfl

theorem State.firstSign_table (s : State) : s.firstSign.table = s.table := rfl

theorem State.firstSign_journal (s : State) : s.firstSign.journal = s.journal := rfl

section Restart

variable (levels : InputLevels) (backup : Backup) (s : State)

theorem restart_table : (restart levels backup s).table = (s.judged levels backup).table := by
  rw [restart_eq, State.firstSign_table, State.countInterruption_table, State.restoreShift_table]

theorem restart_party (i : Fin 4) : (restart levels backup s).party i = ((s.wake levels backup).verdict i).party := by
  rw [← State.judged_party]
  exact congrArg (fun t : PartyTable => t.slots[i]) (restart_table levels backup s)

theorem restart_journal :
    (restart levels backup s).journal = (s.judged levels backup).restoreShift.journal := by
  rw [restart_eq, State.firstSign_journal, State.countInterruption_journal]

theorem restart_shift :
    (restart levels backup s).shift = (s.judged levels backup).restoreShift.shift.interrupted := by
  rw [restart_eq, State.firstSign_shift, State.countInterruption_shift]

theorem restart_store : (restart levels backup s).store =
    { (s.dropVolatile.store.recoverClock s.secondMs backup) with stage := s.store.stage.rearm } := by
  rw [restart, State.firstSign_store, State.restore_store, State.wake_store]
  rfl

theorem restart_meas : (restart levels backup s).meas = (s.wake levels backup).meas :=
  (s.wake levels backup).restore_frame .meas (by decide)

theorem restart_ports : (restart levels backup s).ports = ⟨.restarted, .restarted, .restarted⟩ :=
  (s.wake levels backup).restore_frame .ports (by decide)

theorem restart_windowMs : (restart levels backup s).windowMs = 0 :=
  (s.wake levels backup).restore_frame .windowMs (by decide)

theorem restart_secondMs : (restart levels backup s).secondMs = restartPhase s.secondMs backup :=
  (s.wake levels backup).restore_frame .secondMs (by decide)

theorem restart_powered : (restart levels backup s).powered = true :=
  (s.wake levels backup).restore_frame .powered (by decide)

theorem restart_now : (s.wake levels backup).store.now = (restart levels backup s).store.now := by
  rw [restart, State.firstSign_store, State.restore_store]

/-! ## The parties (R123, R124) -/

theorem restart_vacant {i : Fin 4} (h : s.party i = none) : (restart levels backup s).party i = none := by
  rw [restart_party, State.verdict_vacant ((s.wake_party levels backup i).trans h)]

theorem restart_open {i : Fin 4} {x : Party} (h : s.party i = some x) (hstate : x.state ≠ .closing) :
    (restart levels backup s).party i = some (x.restored (restart levels backup s).store.now) := by
  rw [restart_party, State.verdict_open ((s.wake_party levels backup i).trans h) hstate, restart_now]

theorem restart_stored {i : Fin 4} {x : Party} (h : s.party i = some x) (hstate : x.state = .closing)
    (htrip : s.journal.newestTrip.map (·.hire) = some x.hire) : (restart levels backup s).party i = none := by
  obtain ⟨t, ht, hhire⟩ := Option.map_eq_some_iff.mp htrip
  rw [restart_party, State.verdict_stored ((s.wake_party levels backup i).trans h) hstate ht hhire]

theorem restart_requeued {i : Fin 4} {x : Party} (h : s.party i = some x) (hstate : x.state = .closing)
    (hother : s.journal.newestTrip.map (·.hire) ≠ some x.hire) :
    (restart levels backup s).party i = some x ∧ .trip (tripEntry s.meas.cal.k i x) ∈ (s.wake levels backup).requeued := by
  have hverdict := State.verdict_requeued ((s.wake_party levels backup i).trans h) hstate hother
  refine ⟨by rw [restart_party, hverdict], State.mem_requeued.mpr ⟨i, ?_⟩⟩
  rw [hverdict]
  exact List.mem_singleton_self _

/-! ## The journal and the shift (R122, R125, R126) -/

theorem restart_journal_kept (h : s.shift.state = .closing → s.shiftStored) : (restart levels backup s).journal =
    { s.journal.restarted with places := (s.wake levels backup).requeued } := by
  rw [restart_journal, ← State.judged_journal]
  by_cases hclosing : s.shift.state = .closing
  · obtain ⟨hstate, r, time, hnewest, hnumber⟩ := (s.judged_shiftStored levels backup).mpr (h hclosing)
    rw [State.restoreShift_stored hstate hnewest hnumber]
    rfl
  · rw [State.restoreShift_open (by rwa [(s.judged_shift_state levels backup).1])]

/-- The SHIFT entry that a restart queues again (R125). -/
def State.shiftAgain (s : State) (u : Shift) : EntryBody :=
  .shift (u.report (s.shift.number.getD 0) (s.shift.closingK.getD s.meas.cal.k) (s.shift.closingRate.getD 0) none)

theorem restoreShift_requeues (h : s.shift.state = .closing) (hother : ¬s.shiftStored) :
    (s.judged levels backup).restoreShift = { s.judged levels backup with
      journal := (s.judged levels backup).journal.append (s.shiftAgain (s.judged levels backup).shift) } := by
  obtain ⟨hstate, hnumber⟩ := s.judged_shift_state levels backup
  have hframe := (s.judged_counted levels backup).frame
  have hk : (s.judged levels backup).shift.closingK = s.shift.closingK := by rw [hframe]
  have hrate : (s.judged levels backup).shift.closingRate = s.shift.closingRate := by rw [hframe]
  rw [State.restoreShift_requeued (hstate.trans h) (fun hs => hother ((s.judged_shiftStored levels backup).mp hs)),
    State.shiftAgain, hnumber, hk, hrate, State.judged_k]

end Restart

theorem RecordStore.append_mem (j : RecordStore) (b : EntryBody) :
    b ∈ (j.append b).places ++ (j.append b).waiting := by
  unfold RecordStore.append
  split <;> simp

end Sys2Proof.Machine
end


section
/-! The restart as one statement (R122 to R126): the shift, the notices, the clock and the sign it leaves. -/

namespace Sys2Proof.Machine

/-! ## The newest entry of a kind (R123, R125) -/

theorem reverse_findSome?_eq_some_iff {α β : Type} {f : α → Option β} {l : List α} {b : β} :
    l.reverse.findSome? f = some b ↔
      ∃ older a newer, l = older ++ a :: newer ∧ f a = some b ∧ ∀ d ∈ newer, f d = none := by
  rw [List.findSome?_eq_some_iff]
  constructor
  · rintro ⟨newer, a, older, hl, ha, hnone⟩
    refine ⟨older.reverse, a, newer.reverse, ?_, ha, fun d hd => hnone d (List.mem_reverse.mp hd)⟩
    simpa using congrArg List.reverse hl
  · rintro ⟨older, a, newer, rfl, ha, hnone⟩
    exact ⟨newer.reverse, a, older.reverse, by simp, ha, fun d hd => hnone d (List.mem_reverse.mp hd)⟩

theorem EntryBody.trip?_eq_some {b : EntryBody} {x : TripEntry} : b.trip? = some x ↔ b = .trip x := by
  cases b <;> simp [EntryBody.trip?]

theorem EntryBody.trip?_eq_none {b : EntryBody} : b.trip? = none ↔ ∀ x, b ≠ .trip x := by
  cases b <;> simp [EntryBody.trip?]

theorem Entry.shift?_eq_some {e : Entry} {r : ShiftReport} {time : Stamp} :
    e.shift? = some (r, time) ↔ e.body = .shift r ∧ e.time = time := by
  obtain ⟨_, _, body⟩ := e
  cases body <;> simp [Entry.shift?]

theorem Entry.shift?_eq_none {e : Entry} : e.shift? = none ↔ ∀ r, e.body ≠ .shift r := by
  obtain ⟨_, _, body⟩ := e
  cases body <;> simp [Entry.shift?]

theorem RecordStore.newestTrip_iff (j : RecordStore) (x : TripEntry) : j.newestTrip = some x ↔
    ∃ older e newer, j.stored = older ++ e :: newer ∧ e.body = .trip x ∧ ∀ d ∈ newer, ∀ y, d.body ≠ .trip y := by
  simp only [RecordStore.newestTrip, reverse_findSome?_eq_some_iff, EntryBody.trip?_eq_some, EntryBody.trip?_eq_none]

theorem RecordStore.newestShift_iff (j : RecordStore) (r : ShiftReport) (time : Stamp) : j.newestShift = some (r, time) ↔
    ∃ older e newer, j.stored = older ++ e :: newer ∧ e.body = .shift r ∧ e.time = time ∧
      ∀ d ∈ newer, ∀ y, d.body ≠ .shift y := by
  simp only [RecordStore.newestShift, reverse_findSome?_eq_some_iff, Entry.shift?_eq_some, Entry.shift?_eq_none, and_assoc]

/-! ## The shift after a restart (R125, R126) -/

theorem Shift.interrupted_kept (u : Shift) : u.interrupted = { u with counters := u.interrupted.counters } := by
  unfold Shift.interrupted Shift.gain
  split <;> rfl

section Shift

variable (levels : InputLevels) (backup : Backup) {s : State}

/-- A shift that is not CLOSING goes on, interrupted. -/
theorem restart_shift_open (h : s.shift.state ≠ .closing) :
    (restart levels backup s).shift = (s.judged levels backup).shift.interrupted := by
  rw [restart_shift, State.restoreShift_open (by rwa [(s.judged_shift_state levels backup).1])]

/-- A CLOSING shift whose entry is stored is closed with the entry's time. -/
theorem restart_shift_stored {r : ShiftReport} {time : Stamp} (h : s.shift.state = .closing)
    (hnewest : s.journal.newestShift = some (r, time)) (hnumber : s.shift.number = some r.number) :
    (restart levels backup s).shift = (s.judged levels backup).shift.closeAt time := by
  obtain ⟨hstate, hsame⟩ := s.judged_shift_state levels backup
  rw [restart_shift, State.restoreShift_stored (hstate.trans h) ((s.judged_newestShift levels backup).trans hnewest)
    (hsame.trans hnumber), State.raise_shift]
  exact Shift.interrupted_unopened nofun

/-- A CLOSING shift whose entry is not stored stays CLOSING. -/
theorem restart_shift_requeued (h : s.shift.state = .closing) (hother : ¬s.shiftStored) :
    (restart levels backup s).shift = (s.judged levels backup).shift := by
  rw [restart_shift, restoreShift_requeues levels backup s h hother]
  refine Shift.interrupted_unopened ?_
  rw [(s.judged_shift_state levels backup).1, h]
  nofun

/-- The three ways of the shift through a restart. -/
theorem restart_shift_cases (s : State) :
    (s.shift.state ≠ .closing ∧ (restart levels backup s).shift = (s.judged levels backup).shift.interrupted) ∨
    (s.shift.state = .closing ∧ ∃ time, (restart levels backup s).shift = (s.judged levels backup).shift.closeAt time) ∨
    (s.shift.state = .closing ∧ (restart levels backup s).shift = (s.judged levels backup).shift) := by
  by_cases h : s.shift.state = .closing
  · by_cases hstored : s.shiftStored
    · obtain ⟨-, r, time, hnewest, hnumber⟩ := hstored
      exact .inr (.inl ⟨h, time, restart_shift_stored levels backup h hnewest hnumber⟩)
    · exact .inr (.inr ⟨h, restart_shift_requeued levels backup h hstored⟩)
  · exact .inl ⟨h, restart_shift_open levels backup h⟩

/-- What a restart may change of the shift. -/
theorem restart_shift_frame (s : State) : (restart levels backup s).shift = { s.shift with
    state := (restart levels backup s).shift.state, number := (restart levels backup s).shift.number
    closeTime := (restart levels backup s).shift.closeTime, counters := (restart levels backup s).shift.counters
    limitReached := (restart levels backup s).shift.limitReached, totals := (restart levels backup s).shift.totals } := by
  have hframe := (s.judged_counted levels backup).frame
  obtain ⟨-, h⟩ | ⟨-, time, h⟩ | ⟨-, h⟩ := restart_shift_cases levels backup s <;> rw [h]
  · rw [Shift.interrupted_kept, hframe]
  · rw [hframe]
    rfl
  · rw [hframe]

theorem restart_shift_running (h : s.shift.state ≠ .closing) : (restart levels backup s).shift.state = s.shift.state ∧
    (restart levels backup s).shift.number = s.shift.number ∧
      (restart levels backup s).shift.closeTime = s.shift.closeTime := by
  rw [restart_shift_open levels backup h, Shift.interrupted_kept, (s.judged_counted levels backup).frame]
  exact ⟨rfl, rfl, rfl⟩

theorem restart_shift_waiting (h : s.shift.state = .closing) (hother : ¬s.shiftStored) :
    (restart levels backup s).shift.state = .closing ∧ (restart levels backup s).shift.number = s.shift.number ∧
      (restart levels backup s).shift.closeTime = s.shift.closeTime := by
  rw [restart_shift_requeued levels backup h hother, (s.judged_counted levels backup).frame]
  exact ⟨h, rfl, rfl⟩

/-- Outside an OPEN shift no counter moves (R129). -/
theorem restart_counters_unopened (h : s.shift.state ≠ .opened) :
    (restart levels backup s).shift.counters = s.shift.counters ∧
      (restart levels backup s).shift.limitReached = s.shift.limitReached := by
  have hcounted := (s.judged_counted levels backup).unopened h
  obtain ⟨-, hs⟩ | ⟨-, time, hs⟩ | ⟨-, hs⟩ := restart_shift_cases levels backup s <;> rw [hs]
  · rw [Shift.interrupted_unopened (by rwa [(s.judged_shift_state levels backup).1])]
    exact hcounted
  · exact hcounted
  · exact hcounted

/-- An OPEN shift after a restart (R126). -/
theorem restart_shift_opened (h : s.shift.state = .opened) : (restart levels backup s).shift =
    { (s.judged levels backup).shift with counters := { (s.judged levels backup).shift.counters with
        powerInterruptions := min max32 ((s.judged levels backup).shift.counters.powerInterruptions + 1) } } := by
  rw [restart_shift_open levels backup (by rw [h]; nofun)]
  exact Shift.interrupted_open ((s.judged_shift_state levels backup).1.trans h)

theorem restart_interruptions (h : s.shift.state = .opened) :
    (restart levels backup s).shift.counters.powerInterruptions = min max32 (s.shift.counters.powerInterruptions + 1) := by
  rw [restart_shift_opened levels backup h, ← (s.judged_counted levels backup).interruptions]

/-- Where no slot counts a trip, the shift is judged as it stood. -/
theorem State.judged_uncounted (h : ∀ i x, s.party i = some x → x.state = .closing → x.counted = false →
    s.journal.newestTrip.map (·.hire) ≠ some x.hire) : (s.judged levels backup).shift = s.shift := by
  have hnil : (s.wake levels backup).recounted = [] := State.recounted_nil fun i => State.verdict_counted_nil (h i)
  rw [State.judged, State.restoreSlots_shift, hnil]
  rfl

theorem restart_uncounted (h : ∀ i x, s.party i = some x → x.state = .closing → x.counted = false →
      s.journal.newestTrip.map (·.hire) ≠ some x.hire) :
    (restart levels backup s).shift.totals = s.shift.totals ∧
      (restart levels backup s).shift.limitReached = s.shift.limitReached ∧
      (s.shift.state = .opened → (restart levels backup s).shift.counters = { s.shift.counters with
        powerInterruptions := min max32 (s.shift.counters.powerInterruptions + 1) }) := by
  have hjudged := State.judged_uncounted levels backup h
  refine ⟨?_, ?_, fun hopen => by rw [restart_shift_opened levels backup hopen, hjudged]⟩ <;>
    obtain ⟨-, hs⟩ | ⟨-, time, hs⟩ | ⟨-, hs⟩ := restart_shift_cases levels backup s <;> rw [hs, hjudged]
  · rw [Shift.interrupted_kept]
  · rfl
  · rw [Shift.interrupted_kept]
  · rfl

/-! ## The journal after a restart -/

theorem State.requeued_noShift (s : State) : s.requeued.countP EntryBody.isShift = 0 := by
  refine List.countP_eq_zero.mpr fun b hb => ?_
  obtain ⟨i, hi⟩ := State.mem_requeued.mp hb
  obtain h | ⟨p, -, -, h⟩ := s.verdict_queued i <;> rw [h] at hi
  · cases hi
  · obtain rfl := List.mem_singleton.mp hi
    nofun

theorem restart_journal_requeued (h : s.shift.state = .closing) (hother : ¬s.shiftStored) :
    (restart levels backup s).journal =
      (s.judged levels backup).journal.append (s.shiftAgain (s.judged levels backup).shift) := by
  rw [restart_journal, restoreShift_requeues levels backup s h hother]

/-- The entries stored stay, and no write is in flight. -/
theorem restart_journal_frame (s : State) : (restart levels backup s).journal.stored = s.journal.stored ∧
    (restart levels backup s).journal.nextSeq = s.journal.nextSeq ∧ (restart levels backup s).journal.inFlight = false := by
  by_cases h : s.shift.state = .closing ∧ ¬s.shiftStored
  · rw [restart_journal_requeued levels backup h.1 h.2]
    obtain ⟨hstored, hseq, hflight⟩ := (s.judged levels backup).journal.append_stored
      (s.shiftAgain (s.judged levels backup).shift)
    rw [hstored, hseq, hflight, State.judged_journal]
    exact ⟨rfl, rfl, rfl⟩
  · rw [restart_journal_kept levels backup s fun hclosing => Classical.not_not.mp fun hother => h ⟨hclosing, hother⟩]
    exact ⟨rfl, rfl, rfl⟩

/-- The entries of the slots take places of their own, before the shift's. -/
theorem restart_places {b : EntryBody} (h : b ∈ (s.wake levels backup).requeued) :
    b ∈ (restart levels backup s).journal.places := by
  have hjudged : b ∈ (s.judged levels backup).journal.places := by
    rw [State.judged_journal]
    exact h
  by_cases hshift : s.shift.state = .closing ∧ ¬s.shiftStored
  · rw [restart_journal_requeued levels backup hshift.1 hshift.2]
    unfold RecordStore.append
    split
    · exact List.mem_append_left _ hjudged
    · exact hjudged
  · rw [restart_journal_kept levels backup s fun hclosing => Classical.not_not.mp fun hother => hshift ⟨hclosing, hother⟩]
    exact h

theorem restart_shift_queued (h : s.shift.state = .closing) (hother : ¬s.shiftStored) :
    ((restart levels backup s).journal.places ++ (restart levels backup s).journal.waiting).countP EntryBody.isShift = 1 ∧
    ∀ n k rate driver time, s.shift.number = some n → s.shift.closingK = some k → s.shift.closingRate = some rate →
      s.shift.driver = some driver → s.shift.openTime = some time →
      .shift { number := n, driver := driver, openTime := time, closeTime := none, counters := s.shift.counters
               limitReached := s.shift.limitReached, k := k, rate := rate } ∈
        (restart levels backup s).journal.places ++ (restart levels backup s).journal.waiting := by
  rw [restart_journal_requeued levels backup h hother]
  refine ⟨?_, fun n k rate driver time hn hk hrate hdriver htime => ?_⟩
  · rw [RecordStore.append_count, State.judged_journal]
    show (State.requeued _ ++ []).countP EntryBody.isShift + 1 = 1
    rw [List.append_nil, State.requeued_noShift]
  · obtain ⟨hcounters, hlimit⟩ := (s.judged_counted levels backup).unopened (by rw [h]; nofun)
    refine cast (congrArg (· ∈ _) ?_) (RecordStore.append_mem _ _)
    rw [State.shiftAgain, (s.judged_counted levels backup).frame, hcounters, hlimit]
    simp only [Shift.report, hn, hk, hrate, hdriver, htime, Option.getD_some]

end Shift

/-! ## The notices after a restart (R126, R194) -/

theorem Notices.route_congr {n m : Notices} (h : m.routes = n.routes) (src : NoticeSource) : m.route src = n.route src := by
  simp only [Notices.route, h]

/-- What raising a source adds to a port's pulses (R184). -/
theorem State.raise_pulses (s : State) (src : NoticeSource) (q : Port) : ((s.raise src).notices.ports.get q).pulses =
    (s.notices.ports.get q).pulses ||| (if (s.notices.route src).has q then src.bit else 0) := by
  rw [State.raise_port]
  split
  · rfl
  · simp

theorem State.raise_rest (s : State) (src : NoticeSource) (q : Port) :
    ((s.raise src).notices.ports.get q).messages = (s.notices.ports.get q).messages ∧
    ((s.raise src).notices.ports.get q).enabled = (s.notices.ports.get q).enabled := by
  rw [State.raise_port]
  split <;> exact ⟨rfl, rfl⟩

theorem State.countInterruption_notices (s : State) : s.countInterruption.notices = (s.raise .powerRecovered).notices := rfl

section Notices

variable (levels : InputLevels) (backup : Backup) {s : State}

theorem restart_notices (s : State) :
    (restart levels backup s).notices = ((s.judged levels backup).restoreShift.raise .powerRecovered).notices := by
  rw [restart_eq, State.firstSign_notices, State.countInterruption_notices]

theorem State.dropVolatile_port (s : State) (q : Port) : s.dropVolatile.notices.ports.get q = .emptied := by
  cases q <;> rfl

theorem State.dropVolatile_route (s : State) (src : NoticeSource) : s.dropVolatile.notices.route src = s.notices.route src :=
  Notices.route_congr rfl src

/-- The notices that a restore with the shift closed goes on from. -/
theorem restoreShift_notices_stored (h : s.shiftStored) :
    (s.judged levels backup).restoreShift.notices = (s.dropVolatile.raise .shiftClosed).notices := by
  obtain ⟨hstate, r, time, hnewest, hnumber⟩ := (s.judged_shiftStored levels backup).mpr h
  rw [State.restoreShift_stored hstate hnewest hnumber]
  have hnotices := s.judged_notices levels backup
  simp only [State.raise, hnotices]

/-- The notices that a restore with no shift closed goes on from. -/
theorem restoreShift_notices_kept (h : ¬s.shiftStored) :
    (s.judged levels backup).restoreShift.notices = s.dropVolatile.notices := by
  rw [← s.judged_notices levels backup]
  by_cases hclosing : s.shift.state = .closing
  · rw [restoreShift_requeues levels backup s hclosing h]
  · rw [State.restoreShift_open (by rwa [(s.judged_shift_state levels backup).1])]

theorem restart_pulses_stored (h : s.shiftStored) (q : Port) : ((restart levels backup s).notices.ports.get q).pulses =
    (if (s.notices.route .powerRecovered).has q then 0x8000#16 else 0#16) |||
    (if (s.notices.route .shiftClosed).has q then 0x40#16 else 0#16) := by
  rw [restart_notices, State.raise_pulses, restoreShift_notices_stored levels backup h, State.raise_pulses,
    Notices.route_congr (State.raise_routes _ _), State.dropVolatile_route, State.dropVolatile_route,
    State.dropVolatile_port, BitVec.or_comm, show (PortNotices.emptied).pulses = 0#16 from rfl, BitVec.zero_or]
  rfl

theorem restart_pulses_kept (h : ¬s.shiftStored) (q : Port) : ((restart levels backup s).notices.ports.get q).pulses =
    (if (s.notices.route .powerRecovered).has q then 0x8000#16 else 0#16) |||
    (if (s.notices.route .shiftClosed).has q then 0#16 else 0#16) := by
  rw [restart_notices, State.raise_pulses, restoreShift_notices_kept levels backup h, State.dropVolatile_route,
    State.dropVolatile_port, show (PortNotices.emptied).pulses = 0#16 from rfl, BitVec.zero_or, ite_self, BitVec.or_zero]
  rfl

theorem restart_routes (s : State) : (restart levels backup s).notices.routes = s.notices.routes := by
  rw [restart_notices, State.raise_routes]
  by_cases h : s.shiftStored
  · rw [restoreShift_notices_stored levels backup h, State.raise_routes]
    rfl
  · rw [restoreShift_notices_kept levels backup h]
    rfl

theorem restart_messages (s : State) (q : Port) : ((restart levels backup s).notices.ports.get q).messages = [] ∧
    ((restart levels backup s).notices.ports.get q).enabled = BitVec.allOnes 21 := by
  obtain ⟨hmessages, henabled⟩ := (s.judged levels backup).restoreShift.raise_rest .powerRecovered q
  rw [restart_notices, hmessages, henabled]
  by_cases h : s.shiftStored
  · obtain ⟨hmessages, henabled⟩ := s.dropVolatile.raise_rest .shiftClosed q
    rw [restoreShift_notices_stored levels backup h, hmessages, henabled, State.dropVolatile_port]
    exact ⟨rfl, rfl⟩
  · rw [restoreShift_notices_kept levels backup h, State.dropVolatile_port]
    exact ⟨rfl, rfl⟩

end Notices

/-! ## The clock after a restart (R29, R31) -/

theorem TariffStore.advance_frame (t : TariffStore) (n : Nat) : t.advance n = { t with
    clock := (t.advance n).clock, clockInvalid := (t.advance n).clockInvalid, holiday := (t.advance n).holiday } := by
  unfold TariffStore.advance
  split <;> rfl

theorem TariffStore.advance_clock (t : TariffStore) (n : Nat) : (t.advance n).clock = (t.clock + n) % 4294967296 := by
  unfold TariffStore.advance
  split <;> rfl

theorem TariffStore.advance_invalid {t : TariffStore} (h : t.clockInvalid = true) (n : Nat) :
    (t.advance n).clockInvalid = true ∧ (t.advance n).holiday = t.holiday := by
  rw [TariffStore.advance, if_pos h]
  exact ⟨h, rfl⟩

theorem TariffStore.advance_valid {t : TariffStore} (h : t.clockInvalid = false) (n : Nat) :
    (t.advance n).clockInvalid = decide (max32 < t.clock + n) ∧
    (t.advance n).holiday = (t.holiday && decide (min max32 (t.clock + n) / 86400 = t.clock / 86400)) := by
  rw [TariffStore.advance, if_neg (by simp [h])]
  exact ⟨rfl, rfl⟩

theorem TariffStore.recoverClock_frame (t : TariffStore) (phase : Nat) (backup : Backup) : t.recoverClock phase backup = { t with
    clock := (t.recoverClock phase backup).clock, clockInvalid := (t.recoverClock phase backup).clockInvalid
    holiday := (t.recoverClock phase backup).holiday } := by
  cases backup with
  | held n => exact t.advance_frame _
  | failed n => rfl

section Clock

variable (levels : InputLevels) {s : State}

theorem restart_store_frame (backup : Backup) (s : State) : (restart levels backup s).store = { s.store with
    stage := match s.store.stage with
      | .activating v => .armed v
      | x => x
    zone := { s.store.zone with known := false, lastCode := none, uncertain := 0, watch := none }
    clock := (restart levels backup s).store.clock, clockInvalid := (restart levels backup s).store.clockInvalid
    holiday := (restart levels backup s).store.holiday } := by
  rw [restart_store, TariffStore.recoverClock_frame]
  cases s.store.stage <;> rfl

theorem restart_clock_failed (n : Nat) (s : State) : (restart levels (.failed n) s).store.clock = 0 ∧
    (restart levels (.failed n) s).store.clockInvalid = true ∧
    (restart levels (.failed n) s).store.holiday = s.store.holiday ∧ (restart levels (.failed n) s).secondMs = n % 1000 := by
  rw [restart_store, restart_secondMs]
  exact ⟨rfl, rfl, rfl, rfl⟩

theorem restart_clock_held (n : Nat) (s : State) :
    (restart levels (.held n) s).secondMs = (s.secondMs + n) % 1000 ∧
    (restart levels (.held n) s).store.clock = (s.store.clock + (s.secondMs + n) / 1000) % 4294967296 ∧
    (s.store.clockInvalid = true → (restart levels (.held n) s).store.clockInvalid = true ∧
      (restart levels (.held n) s).store.holiday = s.store.holiday) ∧
    (s.store.clockInvalid = false →
      (restart levels (.held n) s).store.clockInvalid = decide (max32 < s.store.clock + (s.secondMs + n) / 1000) ∧
      (restart levels (.held n) s).store.holiday = (s.store.holiday &&
        decide (min max32 (s.store.clock + (s.secondMs + n) / 1000) / 86400 = s.store.clock / 86400))) := by
  rw [restart_store, restart_secondMs]
  exact ⟨rfl, TariffStore.advance_clock _ _, fun h => TariffStore.advance_invalid (t := s.dropVolatile.store) h _,
    fun h => TariffStore.advance_valid (t := s.dropVolatile.store) h _⟩

end Clock

/-! ## The sign after a restart (R149, R158) -/

theorem Sign.levelFor_eq (g : Sign) (p : Period) : g.levelFor p = if p = .night then g.nightLevel else g.dayLevel := by
  cases p <;> rfl

section Sign

variable (levels : InputLevels) (backup : Backup) (s : State)

theorem State.firstSign_deriveSign (s : State) : s.firstSign.deriveSign = s.deriveSign := rfl

/-- The first derivation sees the store and the sign state that the restart leaves. -/
theorem restart_sign_derived : (restart levels backup s).sign = Sign.settleLamps { s.sign.restarted with
    state := (restart levels backup s).deriveSign, phase := 0, period := (restart levels backup s).store.period
    level := s.sign.restarted.levelFor (restart levels backup s).store.period } := by
  have hsign : (s.wake levels backup).restore.sign = s.sign.restarted := (s.wake levels backup).restore_frame .sign (by decide)
  rw [restart, State.firstSign_store, State.firstSign_deriveSign, State.firstSign_sign, hsign]

theorem restart_sign_frame : (restart levels backup s).sign = { s.sign with
    state := (restart levels backup s).deriveSign, phase := 0, test := none, lamps := (restart levels backup s).sign.lamps
    period := (restart levels backup s).store.period
    level := if (restart levels backup s).store.period = .night then s.sign.nightLevel else s.sign.dayLevel } := by
  have h := restart_sign_derived levels backup s
  rw [Sign.levelFor_eq] at h
  generalize (restart levels backup s).deriveSign = state at h ⊢
  generalize (restart levels backup s).store.period = period at h ⊢
  generalize (restart levels backup s).sign = g at h ⊢
  subst h
  rfl

/-- A settled lamp that was dark before. -/
theorem Lamp.settle_restarted (lit : Bool) (width : Nat) : Lamp.restarted.settle lit width =
    { override := .normal, dark := 0, latch := false, period := if lit then some { slot := 0, width := width } else none } := by
  cases lit <;> rfl

theorem settled_lamp (g : Sign) (i : Fin 4) (h : g.lamps[i] = Lamp.restarted) : g.settleLamps.lamps[i] =
    { override := .normal, dark := 0, latch := false
      period := if g.settleLamps.channelLit i g.settleLamps.lamps[i] then some { slot := 0, width := onSlots g.level }
        else none } := by
  have hlit : g.settleLamps.channelLit i g.settleLamps.lamps[i] = g.channelLit i g.lamps[i] := by
    refine Sign.channelLit_congr rfl rfl ?_
    rw [Sign.settleLamps_lamp, Lamp.settle_override]
  rw [hlit, Sign.settleLamps_lamp, h, Lamp.settle_restarted]

theorem restart_lamps (i : Fin 4) : (restart levels backup s).sign.lamps[i] =
    { override := .normal, dark := 0, latch := false
      period := if (restart levels backup s).sign.channelLit i (restart levels backup s).sign.lamps[i] then
        some { slot := 0, width := ((restart levels backup s).sign.level * 256 + 50) / 100 } else none } := by
  rw [restart_sign_derived]
  refine settled_lamp _ i ?_
  simp [Sign.restarted]

end Sign

/-- Settles O52: each slot follows its verdict, the shift one of three ways, and every other part is the woken one. -/
theorem restartRestoresThePart : Obligations.RestartRestoresThePart := by
  refine ⟨fun s levels backup => ⟨restart levels backup s, exec_restart levels backup s, restart_powered .., ?vacant, ?running,
    ?paying, ?stopped, ?closing, ?table, ?stored, ?nextSeq, ?inFlight,
    ⟨?frame, ?goesOn, ?closed, ?waits, ?closes, ?silent⟩,
    restart_counters_unopened levels backup, restart_interruptions levels backup, restart_uncounted levels backup, ?meas,
    restart_store_frame .., ?failed, ?held, restart_pay .., restart_sign_frame .., restart_lamps levels backup s, ?intercom,
    restart_routes .., fun q => restart_messages levels backup s q, ?buffers, restart_windowMs ..⟩,
    RecordStore.newestTrip_iff, RecordStore.newestShift_iff⟩
  case vacant => exact fun i h => restart_vacant levels backup s h
  case running =>
    intro i x h hstate
    rw [restart_open levels backup s h (by rw [hstate]; nofun), Party.restored]
    simp only [hstate]
    rfl
  case paying =>
    intro i x h hstate
    rw [restart_open levels backup s h (by rw [hstate]; nofun), Party.restored]
    simp only [hstate]
  case stopped =>
    intro i x h hstate
    rw [restart_open levels backup s h (by rw [hstate]; nofun), Party.restored]
    simp only [hstate]
  case closing =>
    refine fun i x h hstate => ⟨fun htrip => restart_stored levels backup s h hstate htrip, fun hother => ?_⟩
    obtain ⟨hparty, hqueued⟩ := restart_requeued levels backup s h hstate hother
    exact ⟨hparty, restart_places levels backup hqueued⟩
  case table =>
    rw [restart_table]
    exact s.judged_table levels backup
  case stored => exact (restart_journal_frame levels backup s).1
  case nextSeq => exact (restart_journal_frame levels backup s).2.1
  case inFlight => exact (restart_journal_frame levels backup s).2.2
  case frame => exact restart_shift_frame levels backup s
  case goesOn => exact restart_shift_running levels backup
  case closed =>
    intro r time hstate hnewest hnumber
    rw [restart_shift_stored levels backup hstate hnewest hnumber, Shift.closeAt, (s.judged_shift_state levels backup).2,
      hnumber]
    exact ⟨rfl, rfl, rfl⟩
  case waits =>
    intro hstate hother
    obtain ⟨hclosing, hnumber, htime⟩ := restart_shift_waiting levels backup hstate hother
    exact ⟨hclosing, hnumber, htime, restart_shift_queued levels backup hstate hother⟩
  case closes => exact restart_pulses_stored levels backup
  case silent => exact restart_pulses_kept levels backup
  case meas => rw [restart_meas, State.wake_meas]; rfl
  case failed => rintro n rfl; exact restart_clock_failed levels n s
  case held => rintro n rfl; exact restart_clock_held levels n s
  case intercom => rw [restart_intercom, State.wake_intercom]; rfl
  case buffers => intro q; rw [restart_ports]; cases q <;> rfl

end Sys2Proof.Machine
end


section
/-! The loss of power (chapter 6): what it keeps between steps, and the one count of a trip whose completion it cuts. -/

namespace Sys2Proof.Machine

/-! ## Between steps (R120) -/

theorem exec_powerLoss {cut : PowerCut} {s : State} (hp : s.powered = true) :
    exec (.powerLoss cut) s = .next (powerLoss cut s) := event_taken hp

/-- Settles O51: nothing is cut between steps, and the persistent parts are not among the volatile ones. -/
theorem powerLossKeepsTheRecords : Obligations.PowerLossKeepsTheRecords := by
  intro s hp
  refine ⟨_, exec_powerLoss hp, rfl, rfl, rfl, rfl, rfl, rfl, rfl, rfl, rfl, rfl, rfl, ?paths, rfl, rfl, rfl, rfl, ?ports⟩
  case paths => intro q; cases q <;> exact ⟨rfl, rfl⟩
  case ports => intro q; cases q <;> exact ⟨rfl, rfl, rfl⟩

/-! ## A trip's completion and its cuts (R121) -/

/-- The state that a completion's first update leaves for a trip: its entry stored. -/
def State.tripStored (s : State) (e : TripEntry) : State :=
  { s with journal := s.journal.complete (storedEntry s.journal.nextSeq s.store.now (.trip e)) }

section Cut

variable {s : State} {i : Fin 4} {x : Party} {e : TripEntry} {rest : List EntryBody}

theorem State.storeHead_trip (hflight : s.journal.inFlight = true) (hplaces : s.journal.places = .trip e :: rest) :
    s.storeHead = some (storedEntry s.journal.nextSeq s.store.now (.trip e), s.tripStored e) := by
  simp only [State.storeHead, RecordStore.flying, hflight, if_true, hplaces, List.head?_cons]
  rfl

/-- The whole completion: the trip counted, its slot cleared (R80). -/
theorem appendComplete_trip (hflight : s.journal.inFlight = true) (hplaces : s.journal.places = .trip e :: rest) :
    appendComplete s = State.updateSign { (s.tripStored e).setParty e.slot none with shift := s.shift.countTrip e } := by
  simp only [appendComplete, State.storeHead_trip hflight hplaces]
  rfl

theorem State.cutAt_first (hflight : s.journal.inFlight = true) (hplaces : s.journal.places = .trip e :: rest) :
    s.cutAt .afterFirstUpdate = s.tripStored e := by
  simp only [State.cutAt, State.storeHead_trip hflight hplaces]
  rfl

theorem State.cutAt_second (hflight : s.journal.inFlight = true) (hplaces : s.journal.places = .trip e :: rest) :
    s.cutAt .afterSecondUpdate = { (s.tripStored e).markCounted e.slot with shift := s.shift.countTrip e } := by
  simp only [State.cutAt, State.storeHead_trip hflight hplaces]
  rfl

theorem State.tripStored_newest (s : State) (e : TripEntry) : (s.tripStored e).journal.newestTrip = some e :=
  (RecordStore.newestTrip_iff _ _).mpr ⟨s.journal.stored, storedEntry s.journal.nextSeq s.store.now (.trip e), [], rfl, rfl, nofun⟩

end Cut

/-! ## The restart after a cut -/

section Restart

variable (levels : InputLevels) (backup : Backup)

/-- Where one slot alone counts trips, they are those it counts. -/
theorem State.recounted_single {s : State} {i : Fin 4} (h : ∀ j, j ≠ i → (s.verdict j).counted = []) :
    s.recounted = (s.verdict i).counted := by
  unfold State.recounted
  match i with
  | 0 => rw [h 1 (by decide), h 2 (by decide), h 3 (by decide)]; simp
  | 1 => rw [h 0 (by decide), h 2 (by decide), h 3 (by decide)]; simp
  | 2 => rw [h 0 (by decide), h 1 (by decide), h 3 (by decide)]; simp
  | 3 => rw [h 0 (by decide), h 1 (by decide), h 2 (by decide)]; simp

/-- A part found with the trip's entry as its newest stored one counts the trip unless its slot is marked, and no other. -/
theorem judged_trip {b : State} {i : Fin 4} {y : Party} {e : TripEntry} (hparty : b.party i = some y)
    (hstate : y.state = .closing) (htrip : b.journal.newestTrip = some e) (hhire : e.hire = y.hire)
    (hothers : ∀ j z, b.party j = some z → z.state = .closing → j ≠ i → z.hire ≠ e.hire) :
    (b.judged levels backup).shift = if y.counted then b.shift else b.shift.countTrip e := by
  have hverdict := State.verdict_stored (s := b.wake levels backup) hparty hstate htrip hhire
  have hsingle : (b.wake levels backup).recounted = ((b.wake levels backup).verdict i).counted := by
    refine State.recounted_single fun j hj => State.verdict_counted_nil fun z hz hclosing _ => ?_
    rw [State.wake_newestTrip, htrip, Option.map_some]
    exact fun he => hothers j z hz hclosing hj (Option.some.inj he).symm
  rw [State.judged, State.restoreSlots_shift, hsingle, hverdict, State.wake_shift]
  cases y.counted <;> rfl

theorem State.requeued_trips (s : State) (i : Fin 4) :
    s.requeued.countP (EntryBody.isTripAt i) = (s.verdict i).queued.length := by
  have slot (j : Fin 4) : (s.verdict j).queued.countP (EntryBody.isTripAt i) =
      if j = i then (s.verdict j).queued.length else 0 := by
    obtain h | ⟨p, -, -, h⟩ := s.verdict_queued j <;> rw [h]
    · simp
    · simp [EntryBody.isTripAt, tripEntry]
  simp only [State.requeued, List.countP_append, slot]
  match i with
  | 0 => simp
  | 1 => simp
  | 2 => simp
  | 3 => simp

end Restart

theorem Shift.countTrip_trips {u : Shift} (h : u.state = .opened) (e : TripEntry) :
    (u.countTrip e).counters.trips = min max32 (u.counters.trips + 1) := by
  simp only [Shift.countTrip, Shift.gain, if_pos h]
  rfl

/-- A cut that finds the entry stored, with the slot marked or not, ends with the trip counted once. -/
theorem trip_counted_once (levels : InputLevels) (backup : Backup) {s b : State} {i : Fin 4} {y : Party} {e : TripEntry}
    (hopen : s.shift.state = .opened) (hparty : b.party i = some y) (hstate : y.state = .closing) (hhire : e.hire = y.hire)
    (hjournal : b.journal.stored = (s.tripStored e).journal.stored)
    (hshift : b.shift = if y.counted then s.shift.countTrip e else s.shift)
    (hothers : ∀ j z, b.party j = some z → z.state = .closing → j ≠ i → z.hire ≠ e.hire) :
    (restart levels backup b).party i = none ∧
    (restart levels backup b).journal.stored = (s.tripStored e).journal.stored ∧
    (restart levels backup b).shift = { s.shift.countTrip e with counters := { (s.shift.countTrip e).counters with
      powerInterruptions := min max32 ((s.shift.countTrip e).counters.powerInterruptions + 1) } } := by
  have htrip : b.journal.newestTrip = some e := by
    rw [← s.tripStored_newest e]
    simp only [RecordStore.newestTrip, hjournal]
  have hjudged : (b.judged levels backup).shift = s.shift.countTrip e := by
    rw [judged_trip levels backup hparty hstate htrip hhire hothers, hshift]
    cases y.counted <;> rfl
  have hstays : b.shift.state = .opened := by
    rw [hshift]
    cases y.counted
    · exact hopen
    · exact (s.shift.countTrip_state e).1.trans hopen
  refine ⟨restart_stored levels backup b hparty hstate (by rw [htrip, Option.map_some, hhire]),
    (restart_journal_frame levels backup b).1.trans hjournal, ?_⟩
  rw [restart_shift_opened levels backup hstays, hjudged]

theorem powerLoss_party (cut : PowerCut) (s : State) (j : Fin 4) : (powerLoss cut s).party j = (s.cutAt cut).party j := rfl

theorem powerLoss_stored (cut : PowerCut) (s : State) : (powerLoss cut s).journal.stored = (s.cutAt cut).journal.stored := rfl

theorem powerLoss_shift (cut : PowerCut) (s : State) : (powerLoss cut s).shift = (s.cutAt cut).shift := rfl

theorem State.markCounted_self {s : State} {i : Fin 4} {x : Party} (h : s.party i = some x) :
    (s.markCounted i).party i = some { x with counted := true } := by
  rw [State.markCounted, State.setParty_party_self, h, Option.map_some]

theorem State.markCounted_other (s : State) {i j : Fin 4} (h : j ≠ i) : (s.markCounted i).party j = s.party j := by
  rw [State.markCounted, State.setParty_party, if_neg fun he => h he.symm]

section Once

variable {s : State} {i : Fin 4} {x : Party} {e : TripEntry} {rest : List EntryBody} (levels : InputLevels) (backup : Backup)
  (hopen : s.shift.state = .opened) (hflight : s.journal.inFlight = true) (hplaces : s.journal.places = .trip e :: rest)
  (hparty : s.party i = some x) (hclosing : x.state = .closing)

include hopen hflight hplaces hparty hclosing

/-- A cut after the first or the second update (R121): the restart ends at the completed append's shift. -/
theorem cut_trip_counted (hslot : e.slot = i) (hhire : x.hire = e.hire) (hcounted : x.counted = false)
    (hothers : ∀ j y, s.party j = some y → y.state = .closing → j ≠ i → y.hire ≠ e.hire) {cut : PowerCut}
    (hcut : cut ≠ .betweenSteps) :
    (restart levels backup (powerLoss cut s)).party i = none ∧
    (restart levels backup (powerLoss cut s)).journal.stored = (s.tripStored e).journal.stored ∧
    (restart levels backup (powerLoss cut s)).shift = { s.shift.countTrip e with
      counters := { (s.shift.countTrip e).counters with
        powerInterruptions := min max32 ((s.shift.countTrip e).counters.powerInterruptions + 1) } } := by
  subst hslot
  cases cut with
  | betweenSteps => exact absurd rfl hcut
  | afterFirstUpdate =>
    have hfirst := State.cutAt_first hflight hplaces
    refine trip_counted_once levels backup hopen (y := x) ?_ hclosing hhire.symm ?_ ?_ fun j z hz => hothers j z ?_
    · rw [powerLoss_party, hfirst]; exact hparty
    · rw [powerLoss_stored, hfirst]
    · rw [powerLoss_shift, hfirst, hcounted]; rfl
    · rw [powerLoss_party, hfirst] at hz; exact hz
  | afterSecondUpdate =>
    have hsecond := State.cutAt_second hflight hplaces
    refine trip_counted_once levels backup hopen (i := e.slot) (y := { x with counted := true }) ?_ hclosing hhire.symm ?_ ?_
      fun j z hz hz' hj => hothers j z ?_ hz' hj
    · rw [powerLoss_party, hsecond]
      exact State.markCounted_self (s := s.tripStored e) hparty
    · rw [powerLoss_stored, hsecond]; rfl
    · rw [powerLoss_shift, hsecond]; rfl
    · rw [powerLoss_party, hsecond] at hz
      exact ((s.tripStored e).markCounted_other hj).symm.trans hz

omit hflight hplaces in
/-- A loss of power before the completion (R120, R123): nothing is counted, and the slot's entry is queued again. -/
theorem uncut_trip_waits
    (hunstored : ∀ d ∈ s.journal.stored, ∀ q, d.body = .trip q → ∀ j y, s.party j = some y → q.hire ≠ y.hire) :
    (restart levels backup (powerLoss .betweenSteps s)).party i = some x ∧
    (restart levels backup (powerLoss .betweenSteps s)).journal.stored = s.journal.stored ∧
    (restart levels backup (powerLoss .betweenSteps s)).shift = { s.shift with
      counters := { s.shift.counters with powerInterruptions := min max32 (s.shift.counters.powerInterruptions + 1) } } ∧
    ((restart levels backup (powerLoss .betweenSteps s)).journal.places ++
      (restart levels backup (powerLoss .betweenSteps s)).journal.waiting).countP (EntryBody.isTripAt i) = 1 := by
  have hother : ∀ j y, s.party j = some y → s.journal.newestTrip.map (·.hire) ≠ some y.hire := by
    intro j y hy he
    obtain ⟨q, hq, hhire⟩ := Option.map_eq_some_iff.mp he
    obtain ⟨older, d, newer, hstored, hbody, -⟩ := (RecordStore.newestTrip_iff _ _).mp hq
    exact hunstored d (by rw [hstored]; simp) q hbody j y hy hhire
  have hstate : (powerLoss .betweenSteps s).shift.state = .opened := hopen
  have hrunning : (powerLoss .betweenSteps s).shift.state ≠ .closing := by rw [hstate]; nofun
  have hjudged : ((powerLoss .betweenSteps s).judged levels backup).shift = s.shift :=
    State.judged_uncounted levels backup (s := powerLoss .betweenSteps s) fun j y hy _ _ => hother j y hy
  refine ⟨(restart_requeued levels backup (powerLoss .betweenSteps s) hparty hclosing (hother i x hparty)).1,
    (restart_journal_frame levels backup _).1, by rw [restart_shift_opened levels backup hstate, hjudged], ?_⟩
  rw [restart_journal_kept levels backup _ (fun h => absurd h hrunning)]
  show (State.requeued _ ++ []).countP (EntryBody.isTripAt i) = 1
  rw [List.append_nil, State.requeued_trips,
    State.verdict_requeued (s := (powerLoss .betweenSteps s).wake levels backup) hparty hclosing (hother i x hparty)]
  rfl

end Once

/-- Settles O53: a cut that finds the entry stored ends at the completed append's shift, whether the first update or the
second was the last; one that does not queues the entry again. -/
theorem tripIsCountedOnceAcrossPowerLoss : Obligations.TripIsCountedOnceAcrossPowerLoss := by
  intro s i x e rest levels backup hp hopen hflight hplaces hslot hparty hclosing hhire hcounted hothers hunstored
  refine ⟨fun cut hcut => ?once, ?waits⟩
  case once =>
    obtain ⟨hslotAfter, hstored, hshift⟩ :=
      cut_trip_counted levels backup hopen hflight hplaces hparty hclosing hslot hhire hcounted hothers hcut
    refine ⟨appendComplete s, powerLoss cut s, restart levels backup (powerLoss cut s), event_taken hp, exec_powerLoss hp,
      exec_restart .., ?_⟩
    rw [hslotAfter, hstored, hshift, appendComplete_trip hflight hplaces, State.updateSign_party, State.updateSign_journal,
      State.updateSign_shift, hslot]
    exact ⟨State.setParty_party_self (s.tripStored e) i none, rfl, rfl, rfl, Shift.countTrip_trips hopen e, rfl, rfl⟩
  case waits =>
    obtain ⟨hslotAfter, hstored, hshift, hqueued⟩ :=
      uncut_trip_waits levels backup hopen hparty hclosing hunstored
    refine ⟨powerLoss .betweenSteps s, restart levels backup (powerLoss .betweenSteps s), exec_powerLoss hp,
      exec_restart .., hslotAfter, hstored, ?_, ?_, hqueued⟩ <;> rw [hshift]

end Sys2Proof.Machine
end


section
/-! One idle millisecond, command by command (log 3), and the reset state (log 1). -/

namespace Sys2Proof.Machine

/-! ## The lamps after a millisecond (R149) -/

theorem Sign.tick_lamp_rest (g : Sign) (i : Fin 4) :
    g.tick.lamps[i] = { g.lamps[i] with period := (g.tick.lamps[i]).period } := by
  rw [Sign.tick_lamp]
  unfold Lamp.settle
  split <;> rfl

/-- The period of a lamp that ends the millisecond in its on phase: begun, moved on, or begun again with the count in use. -/
theorem Sign.tick_period {g : Sign} {i : Fin 4} (h : g.tick.channelLit i g.tick.lamps[i] = true) :
    (g.tick.lamps[i]).period =
      some (((g.lamps[i]).period.map (·.tick (onSlots g.level))).getD { slot := 0, width := onSlots g.level }) := by
  have hlamp := Sign.tick_lamp g i
  rw [h, Lamp.settle, if_pos rfl] at hlamp
  rw [hlamp]

theorem Sign.tick_unlit {g : Sign} {i : Fin 4} (h : g.tick.channelLit i g.tick.lamps[i] = false) :
    (g.tick.lamps[i]).period = none := by
  rw [← Option.isNone_iff_eq_none, ← Option.not_isSome, Sign.tick_lit, h]
  rfl

/-! ## The events of a millisecond -/

/-- A timer-driven expiry of the session is one of a session whose time has run out (R101). -/
theorem Payment.expired_isSome (y : Payment) : y.expired.isSome = decide (y.session.map (·.timeLeft) = some 0) := by
  unfold Payment.expired
  cases y.session with
  | none => rfl
  | some x => by_cases h : x.timeLeft = 0 <;> simp [h]

/-- The seal's change is taken as its command (R9). -/
theorem sealDebounced_taken {s : State} (hp : s.powered = true) :
    if s.meas.sealPin.stable < 50 then sealDebounced s = s
    else if s.meas.sealPin.level = .closed then exec .sealClose s = .next (sealDebounced s)
    else exec .sealOpen s = .next (sealDebounced s) := by
  obtain ⟨h, he⟩ | ⟨h, he⟩ := sealDebounced_cases s
  · rw [if_pos h, he]
  · rw [if_neg (Nat.not_lt.mpr h), he]
    split
    · exact event_taken hp
    · exact event_taken hp

/-- A key's change is taken as its press or release (R169). -/
theorem keyDebounced_taken {side : TalkSide} {s : State} (hp : s.powered = true) :
    if (s.intercom.keyPins.get side).stable < 30 then keyDebounced side s = s
    else if (s.intercom.keyPins.get side).level then exec (.talkKeyPress side) s = .next (keyDebounced side s)
    else exec (.talkKeyRelease side) s = .next (keyDebounced side s) := by
  obtain ⟨h, he⟩ | ⟨h, he⟩ := keyDebounced_cases side s
  · rw [if_pos h, he]
  · rw [if_neg (Nat.not_lt.mpr h), he]
    split
    · exact event_taken hp
    · exact event_taken hp

/-- The window closure of a millisecond, where it falls. -/
def State.closing (s : State) : State := if s.windowMs = 0 then windowClose s.sign.sense s else s

/-- The clock second of a millisecond, where it falls. -/
def State.striking (s : State) (due : Prop) [Decidable due] : State := if due then clockSecond s else s

theorem State.closing_powered (s : State) : s.closing.powered = s.powered := by
  unfold State.closing
  split
  · exact windowClose_frame s.sign.sense s .powered (by decide)
  · rfl

theorem State.striking_powered (s : State) (due : Prop) [Decidable due] : (s.striking due).powered = s.powered := by
  unfold State.striking
  split <;> rfl

theorem State.periodic_closing (s : State) : s.periodic = s.closing.striking (s.secondMs = 0) := s.periodic_eq

/-- Settles O2: the millisecond's counts, then its closure, its second and the changes of its inputs, each as its command,
and the expiries that are then due. -/
theorem idleStepIsOneMillisecond : Obligations.IdleStepIsOneMillisecond := by
  intro s hq
  have hstep : step s = .next (tick s) := by rw [step, hq]
  refine ⟨fun hp => by rw [hstep, tick_unpowered hp], fun hp => ?_⟩
  have hclosing : s.advance.closing.powered = true := s.advance.closing_powered.trans hp
  have hstriking : (s.advance.closing.striking (s.advance.secondMs = 0)).powered = true :=
    (State.striking_powered _ _).trans hclosing
  have hseal := (sealDebounced_frame (s.advance.closing.striking (s.advance.secondMs = 0)) .powered (by decide)).trans hstriking
  have hdriver := (keyDebounced_frame .driver _ .powered (by decide)).trans hseal
  refine ⟨s.advance, s.advance.closing, s.advance.closing.striking (s.advance.secondMs = 0), _, _, _, rfl, ?lamps, ?window,
    ?second, sealDebounced_taken hstriking, keyDebounced_taken hseal, keyDebounced_taken hdriver, ?queue⟩
  case lamps =>
    refine fun i => ⟨Sign.tick_lamp_rest _ _, Sign.tick_unlit, fun hlit => ⟨fun hnone => ?_, fun m hm => ?_⟩⟩
    · rw [State.advance_sign, Sign.tick_period hlit, hnone]
      rfl
    · rw [State.advance_sign, Sign.tick_period hlit, hm]
      rfl
  case window =>
    unfold State.closing
    split
    · exact event_taken hp
    · rfl
  case second =>
    unfold State.striking
    split
    · exact event_taken hclosing
    · rfl
  case queue =>
    rw [hstep, tick_powered hq hp, State.periodic_closing, State.expiries, Payment.expired_isSome]
    rfl

/-! ## The reset state -/

/-- Settles O9: the delivery values, read off the reset state. -/
theorem resetIsADeliveredPart : Obligations.ResetIsADeliveredPart := by
  refine ⟨rfl, rfl, rfl, rfl, rfl, rfl, rfl, rfl, rfl, rfl, rfl, rfl, ?parties, rfl, rfl, rfl, rfl, rfl, rfl, rfl, rfl, rfl, rfl,
    rfl, rfl, rfl, rfl, rfl, rfl, rfl, rfl, rfl, rfl, rfl, rfl, rfl, rfl, rfl, ?ports, rfl⟩
  case parties => decide
  case ports => intro p; cases p <;> exact ⟨rfl, rfl, rfl⟩

theorem reset_vacant (i : Fin 4) : State.reset.party i = none := by revert i; decide

theorem reset_queue : State.reset.journal.places ++ State.reset.journal.waiting = [] := rfl

theorem Tariff.delivery_inRange : Tariff.delivery.InRange := by unfold Tariff.InRange; decide

/-- Tariff 1 is the one present at delivery. -/
theorem TariffSet.delivery_tariffs {i : Fin 8} {r : Tariff} (h : TariffSet.delivery.tariffs[i] = some r) :
    r = Tariff.delivery := by
  match i with
  | 0 => exact (Option.some.inj h).symm
  | 1 | 2 | 3 | 4 | 5 | 6 | 7 => exact absurd h nofun

theorem reset_closingSlots : State.reset.ClosingSlotsAreQueued := by
  refine fun _ => ⟨fun i => ?_, fun e he => ?_⟩
  · rw [reset_queue, reset_vacant]
    rfl
  · rw [reset_queue] at he
    cases he

theorem reset_money : State.reset.MoneyFits := by
  refine ⟨fun i r h => TariffSet.delivery_tariffs h ▸ Tariff.delivery_inRange, fun i r h => ?_, fun i p h => ?_⟩
  · have hnone : TariffSet.empty.tariffs[i] = none := Vector.getElem_replicate _
    exact absurd (hnone.symm.trans h) nofun
  · rw [reset_vacant] at h
    cases h

theorem reset_shift : State.reset.ShiftCoversHires := by
  refine ⟨fun _ => by decide, fun _ => rfl, fun _ => ⟨by decide, fun r hr => ?_⟩⟩
  rw [reset_queue] at hr
  cases hr

theorem reset_sets : State.reset.CommittedSetsAreComplete := by
  refine ⟨by decide, nofun, fun _ => rfl, ?_⟩
  rw [reset_queue]
  exact Nat.zero_le _

/-- Settles O10: the reset state is vacant and quiet, and its settings stand within their bounds. -/
theorem resetStateIsSound : Obligations.ResetStateIsSound := by
  refine ⟨?routes, ?queues, ?gates, fun _ => by decide, ?lamps, ?session, reset_closingSlots, ?reserve, ?seats, reset_money,
    ?sequence, reset_shift, reset_sets, nofun, ?inputs, ?floor, ?latches, ?levels⟩
  case routes => unfold State.RoutesHoldMinimums; decide
  case queues => unfold State.QueuesFit; decide
  case gates => unfold State.GatesFollowFactors; decide
  case lamps => exact fun _ i => by match i with | 0 | 1 | 2 | 3 => exact ⟨rfl, nofun⟩
  case session => exact fun _ => ⟨fun i p h => absurd ((reset_vacant i).symm.trans h) nofun, nofun⟩
  case reserve => unfold State.ReserveFits; decide
  case seats => unfold State.SeatsFit; decide
  case sequence => exact ⟨by decide, rfl⟩
  case inputs => exact ⟨⟨by decide, fun h => absurd rfl h⟩, ⟨by decide, fun h => absurd rfl h⟩, by decide, fun h => absurd rfl h⟩
  case floor => exact ⟨nofun, rfl, nofun⟩
  case latches => unfold State.LampsLatchAtThree; decide
  case levels => unfold State.LevelsAreLegal; decide

end Sys2Proof.Machine
end


section
/-! The calibration run, the seal and the settings of one value (chapters 1, 2, 5, 7, 9): the answer of each request. -/

namespace Sys2Proof.Machine

/-! ## A request's answer as its next state -/

/-- A request of its role is answered with its rule's state, status and results. -/
theorem request_answer {p : Port} {k : Kind} {body : State → Answer} {s u : State} {st : Status} {res : List Byte}
    (hp : s.powered = true) (hr : k.ports.has p = true) (h : body s = ⟨u, st, res⟩) :
    request p k body s = .next (u.putReply p k.code st res) := by
  rw [request_taken hp hr, h]

/-- A request of its role that its rule refuses. -/
theorem request_refused {p : Port} {k : Kind} {body : State → Answer} {s : State} {st : Status} (hp : s.powered = true)
    (hr : k.ports.has p = true) (h : body s = refuse s st) : request p k body s = .next (s.putReply p k.code st []) :=
  request_answer hp hr h

/-- An event of a powered part, with what its function leaves. -/
theorem event_next {f : State → State} {s t : State} (hp : s.powered = true) (h : f s = t) : event f s = .next t := by
  rw [event_taken hp, h]

/-! ## The calibration run (R10 to R14) -/

theorem State.inService_of_idle {s : State} (hshift : s.shift.state = .closed) (hvacant : s.nonVacant = 0) :
    s.inService = false := by
  simp [State.inService, hshift, hvacant]

theorem calBeginFree_taken {s : State} {course : Nat} (hlow : 100 ≤ course) (hhigh : course ≤ 5000)
    (hseal : s.meas.sealState = .opened) (hservice : s.inService = false) :
    calBeginFree course s = ⟨s.setRun (.ready course), .ok, []⟩ := by
  rw [calBeginFree, if_neg (by omega), if_neg (by rw [hseal]; nofun), if_neg (by simp [hservice])]

/-- CAL_BEGIN is taken in IDLE and FAILED alike (R11). -/
theorem calBegin_free {s : State} (course : Nat) (h : s.meas.run = .idle ∨ ∃ c n k, s.meas.run = .failed c n k) :
    calBegin course s = calBeginFree course s := by
  obtain h | ⟨c, n, k, h⟩ := h <;> simp only [calBegin, h]

theorem calMark_start {s : State} {course : Nat} (h : s.meas.run = .ready course) :
    calMark s = ⟨s.setRun (.counting course 0), .ok, []⟩ := by
  simp only [calMark, h]

theorem calMark_done {s : State} {course n : Nat} (h : s.meas.run = .counting course n) (hlow : 500 ≤ computedK n course)
    (hhigh : computedK n course ≤ 50000) : calMark s =
      ⟨(s.setRun (.done course n (computedK n course))).raise .calibrationPending, .ok, u32 n ++ u64 (computedK n course)⟩ := by
  simp only [calMark, h, if_pos (And.intro hlow hhigh)]

theorem calMark_failed {s : State} {course n : Nat} (h : s.meas.run = .counting course n)
    (hout : computedK n course < 500 ∨ 50000 < computedK n course) : calMark s =
      ⟨s.setRun (.failed course n (computedK n course)), .range, u32 n ++ u64 (computedK n course)⟩ := by
  simp only [calMark, h]
  exact if_neg (by omega)

theorem calAbort_idle {s : State} (h : s.meas.run.isAdopting = false) : calAbort s = ⟨s.setRun .idle, .ok, []⟩ := by
  unfold calAbort
  cases hrun : s.meas.run with
  | adopting => rw [hrun] at h; cases h
  | idle | ready | counting | done | failed => rfl

/-- Settles O12: one answer for each request and each state of the run it is taken in. -/
theorem calibrationRunIsMarked : Obligations.CalibrationRunIsMarked := by
  refine ⟨fun s course hp hrun hlow hhigh hseal hshift hvacant => ?begin, fun s course hp hrun => ?start,
    fun s course n hp hrun => ⟨fun hlow hhigh => ?done, fun hout => ?failed⟩, fun s hp hrun => ?abort⟩
  case begin =>
    exact request_answer hp rfl ((calBegin_free _ hrun).trans
      (calBeginFree_taken hlow hhigh hseal (State.inService_of_idle hshift hvacant)))
  case start => exact request_answer hp rfl (calMark_start hrun)
  case done => exact request_answer hp rfl (calMark_done hrun hlow hhigh)
  case failed => exact request_answer hp rfl (calMark_failed hrun hout)
  case abort => exact request_answer hp rfl (calAbort_idle hrun)

/-! ## The adoption and the seal (R9, R14) -/

theorem calAdopt_taken {s : State} {ceiling c n k : Nat} (hrun : s.meas.run = .done c n k) (hceiling : ceiling ≤ 4095)
    (hseal : s.meas.sealState = .opened) (hservice : s.inService = false) (hfree : 1 ≤ s.journal.free)
    (hplace : s.journal.placeFree = true) :
    calAdopt ceiling s = calAdoptTaken c n k (if ceiling = 0 then none else some ceiling) s := by
  have hroom : ¬(s.journal.free = 0 ∨ s.journal.placeFree = false) := by
    rw [hplace]
    rintro (h | h)
    · omega
    · cases h
  simp only [calAdopt, hrun, hservice, hseal, if_neg hroom, if_neg (Nat.not_lt.mpr hceiling)]
  rfl

theorem RecordStore.append_place {j : RecordStore} (h : j.places.length < 4) (b : EntryBody) :
    j.append b = { j with places := j.places ++ [b] } := if_pos h

theorem sealClose_adopting {s : State} (h : s.meas.run.isAdopting = true) : sealClose s =
    { s with meas := { s.meas with sealInput := .closed, sealPin := s.meas.sealPin.at .closed } } := by
  unfold sealClose
  cases hrun : s.meas.run with
  | adopting => simp only [hrun]
  | idle | ready | counting | done | failed => rw [hrun] at h; cases h

theorem sealClose_taken {s : State} (h : s.meas.run.isAdopting = false) : sealClose s =
    { s with meas := { s.meas with
      sealInput := .closed, sealState := .closed, run := .idle, sealPin := s.meas.sealPin.at .closed } } := by
  unfold sealClose
  cases hrun : s.meas.run with
  | adopting => rw [hrun] at h; cases h
  | idle | ready | counting | done | failed => simp only [hrun]

/-- Settles O13: an accepted adoption takes a place of the queue, and the seal's closing waits for it. -/
theorem adoptionIsQueuedAndTheSealMoves : Obligations.AdoptionIsQueuedAndTheSealMoves := by
  refine ⟨fun s ceiling c n k hp hrun hceiling hseal hshift hvacant hfree hplace => ?adopt, fun s hp => event_taken hp,
    fun s hp hrun => ?close, fun s hp hrun => ?heldBack⟩
  case adopt =>
    have htaken := calAdopt_taken hrun hceiling hseal (State.inService_of_idle hshift hvacant) hfree
      (decide_eq_true (show s.journal.places.length < Config.appendPlaces from hplace))
    have hzero : ceiling.toNat = 0 ↔ ceiling = 0 := ⟨fun h => BitVec.eq_of_toNat_eq h, fun h => congrArg BitVec.toNat h⟩
    refine request_answer hp rfl (htaken.trans ?_)
    rw [calAdoptTaken, RecordStore.append_place hplace, presence_one]
    simp only [hzero]
    by_cases h : ceiling = 0
    · subst h; rfl
    · simp only [if_neg h]; rfl
  case close => exact event_next hp (sealClose_taken hrun)
  case heldBack => exact event_next hp (sealClose_adopting hrun)

/-! ## The settings of one value -/

/-- A request whose rule takes the operand within its range and refuses it outside. -/
theorem request_setting {p : Port} {k : Kind} {body : State → Answer} {s u : State} {res : List Byte} {c : Prop} [Decidable c]
    (hp : s.powered = true) (hr : k.ports.has p = true) (hin : c → body s = ⟨u, .ok, res⟩)
    (hout : ¬c → body s = refuse s .range) : request p k body s =
      .next (if c then u.putReply p k.code .ok res else s.putReply p k.code .range []) := by
  split
  · next h => exact request_answer hp hr (hin h)
  · next h => exact request_refused hp hr (hout h)

section Settings

variable (s : State)

theorem setStopInterlock_range {v : Nat} (h : ¬v ≤ 300) : setStopInterlock v s = refuse s .range := if_pos (Nat.lt_of_not_le h)

theorem setStopInterlock_taken {v : Nat} (h : v ≤ 300) : setStopInterlock v s =
    ⟨{ s with meas := { s.meas with cal := { s.meas.cal with interlock := v } } }, .ok, u16 v⟩ := if_neg (Nat.not_lt.mpr h)

theorem setHoliday_range {v : Byte} (h : ¬v.toNat ≤ 1) : setHoliday v s = refuse s .range := by
  simp only [setHoliday, flagOf_none (Nat.lt_of_not_le h)]

theorem setHoliday_taken {v : Byte} (h : v.toNat ≤ 1) :
    setHoliday v s = ⟨{ s with store := { s.store with holiday := decide (v.toNat = 1) } }, .ok, []⟩ := by
  simp only [setHoliday, flagOf_eq h]

theorem setZoneWatch_range {a b : Nat} (h : ¬(a ≤ 127 ∧ b ≤ 15)) : setZoneWatch a b s = refuse s .range :=
  if_pos (by omega)

theorem setZoneWatch_taken {a b : Nat} (h : a ≤ 127 ∧ b ≤ 15) : setZoneWatch a b s =
    ⟨s.setZone { s.store.zone with threshold := a, limit := b, watch := if b = 0 then none else s.store.zone.watch }, .ok, []⟩ :=
  if_neg (by omega)

theorem setPinGuard_range {v : Nat} (h : ¬1 ≤ v) : setPinGuard v s = refuse s .range := if_pos (by omega)

theorem setPinGuard_taken {v : Nat} (h : 1 ≤ v) (hmax : v ≤ 255) :
    setPinGuard v s = ⟨{ s with pay := { s.pay with guardTime := v } }, .ok, []⟩ := if_neg (by omega)

theorem setCommission_range {v : Nat} (h : ¬v ≤ 1000) : setCommission v s = refuse s .range := if_pos (Nat.lt_of_not_le h)

theorem setCommission_taken {v : Nat} (h : v ≤ 1000) : setCommission v s =
    ⟨{ s with shift := { s.shift with commission := v } }, .ok, u16 s.shift.commission ++ u16 v⟩ := if_neg (Nat.not_lt.mpr h)

theorem setOfflineCap_range {v : Nat} (h : ¬v ≤ 999999) : setOfflineCap v s = refuse s .range := if_pos (Nat.lt_of_not_le h)

theorem setOfflineCap_taken {v : Nat} (h : v ≤ 999999) : setOfflineCap v s =
    ⟨{ s with shift := { s.shift with offlineCap := v } }, .ok, u32 s.shift.offlineCap ++ u32 v⟩ := if_neg (Nat.not_lt.mpr h)

theorem setTipCap_range {v : Nat} (h : ¬v ≤ 1000) : setTipCap v s = refuse s .range := if_pos (Nat.lt_of_not_le h)

theorem setTipCap_taken {v : Nat} (h : v ≤ 1000) : setTipCap v s =
    ⟨{ s with shift := { s.shift with tipCap := v } }, .ok, u16 s.shift.tipCap ++ u16 v⟩ := if_neg (Nat.not_lt.mpr h)

theorem setHoldLimit_range {v : Nat} (h : ¬(10 ≤ v ∧ v ≤ 600)) : setHoldLimit v s = refuse s .range := if_pos (by omega)

theorem setHoldLimit_taken {v : Nat} (h : 10 ≤ v ∧ v ≤ 600) : setHoldLimit v s =
    ⟨{ s with shift := { s.shift with holdLimit := v } }, .ok, u16 s.shift.holdLimit ++ u16 v⟩ := if_neg (by omega)

theorem setTalkOverride_range {v : Byte} (h : ¬v.toNat ≤ 1) : setTalkOverride v s = refuse s .range := by
  simp only [setTalkOverride, flagOf_none (Nat.lt_of_not_le h)]

theorem setTalkOverride_taken {v : Byte} (h : v.toNat ≤ 1) : setTalkOverride v s =
    ⟨s.setIntercom { s.intercom with override := decide (v.toNat = 1) }, .ok, []⟩ := by
  simp only [setTalkOverride, flagOf_eq h]

end Settings

/-- Settles O14: each setting has its two answers, by its range. -/
theorem settingsAreReplacedInRange : Obligations.SettingsAreReplacedInRange := by
  intro s hp
  refine ⟨fun v => request_setting hp rfl (setStopInterlock_taken s) (setStopInterlock_range s),
    fun v => request_setting hp rfl (setHoliday_taken s) (setHoliday_range s),
    fun a b => request_setting hp rfl (setZoneWatch_taken s) (setZoneWatch_range s),
    fun v => request_setting hp rfl (fun h => setPinGuard_taken s h (Nat.le_of_lt_succ v.isLt)) (setPinGuard_range s),
    fun v => request_setting hp rfl (setCommission_taken s) (setCommission_range s),
    fun v => request_setting hp rfl (setOfflineCap_taken s) (setOfflineCap_range s),
    fun v => request_setting hp rfl (setTipCap_taken s) (setTipCap_range s),
    fun v => request_setting hp rfl (setHoldLimit_taken s) (setHoldLimit_range s),
    fun v => request_setting hp rfl (setTalkOverride_taken s) (setTalkOverride_range s)⟩

end Sys2Proof.Machine
end


section
/-! What a closure does to the parties (chapter 3), to the shift's pulses and metres (chapter 7), to an armed set (chapter 2)
and to the lamps and codecs (chapters 8 and 9). -/

namespace Sys2Proof.Machine

/-! ## A party through a closure (R41 to R52) -/

/-- The zone entry touches the entries alone. -/
theorem Party.zoneEntry_rest (x : Party) (store : TariffStore) : x.zoneEntry store = { x with
    extras := (x.zoneEntry store).extras, chargedRules := (x.zoneEntry store).chargedRules
    extraDropped := (x.zoneEntry store).extraDropped } := by
  unfold Party.zoneEntry Party.enter
  repeat' split
  all_goals rfl

/-- A re-selection keeps the tariff or switches it (R50, R51). -/
theorem Party.reselect_cases (x : Party) (store : TariffStore) :
    (x.current = store.selectTariff x.pin ∧ x.reselect store = x) ∨
    (x.current ≠ store.selectTariff x.pin ∧ x.reselect store = x.switchTariff (store.selectTariff x.pin)) := by
  unfold Party.reselect
  split
  · next h => exact .inl ⟨h.symm, rfl⟩
  · next h => exact .inr ⟨fun he => h he.symm, rfl⟩

/-- A party as its re-selection and its zone entry leave it: on the selected tariff, its progress lost by a switch, and
every figure of its charge as it was. -/
theorem Party.reselected_rest (x : Party) (store : TariffStore) :
    ∃ y, (x.reselect store).zoneEntry store = y ∧ y = { x with
      current := store.selectTariff x.pin, progress := y.progress, switches := y.switches, extras := y.extras
      chargedRules := y.chargedRules, extraDropped := y.extraDropped } ∧
      (y.current = x.current → y.progress = x.progress ∧ y.switches = x.switches) ∧
      (y.current ≠ x.current → y.progress = 0 ∧ y.switches = min 65535 (x.switches + 1)) := by
  refine ⟨_, rfl, ?_⟩
  obtain ⟨hcurrent, h⟩ | ⟨hcurrent, h⟩ := x.reselect_cases store <;> rw [h, Party.zoneEntry_rest]
  · rw [← hcurrent]
    exact ⟨rfl, fun _ => ⟨rfl, rfl⟩, fun hne => absurd rfl hne⟩
  · exact ⟨rfl, fun he => absurd he.symm hcurrent, fun _ => ⟨rfl, rfl⟩⟩

theorem Party.atClosure_charged {x : Party} {store : TariffStore} {r : Tariff} {k p n : Nat} (hrunning : x.state = .running)
    (hjoining : x.joining = false) (hr : store.active.tariffs[x.current] = some r) :
    x.atClosure store k p n = ((x.charge r k p n).reselect store).zoneEntry store := by
  have hrecord : store.active.record x.current = r := by simp only [TariffSet.record, hr]
  rw [Party.atClosure, if_pos hrunning, Party.metered, if_neg (by simp [hjoining]), hrecord]

/-- The share weight of R43, row by row. -/
theorem Tariff.weight_eq (r : Tariff) (n : Nat) :
    r.weight n = if n = 1 then r.f1 else if n = 2 then r.f2 else if n = 3 then r.f3 else r.f4 := by
  match n with
  | 0 | 1 | 2 | 3 | _ + 4 => simp [Tariff.weight]

theorem Tariff.contribution_eq (r : Tariff) (k p n : Nat) : r.contribution k p n =
    if r.mode = .double then r.distanceGain p n + r.timeGain k n else max (r.distanceGain p n) (r.timeGain k n) := by
  cases h : r.mode <;> simp [Tariff.contribution, h]

/-- What the whole steps leave of a sum is the remainder (R47). -/
theorem sub_div_mul (sum threshold : Nat) : sum - sum / threshold * threshold = sum % threshold := by
  rw [Nat.mul_comm, Nat.mod_eq_sub_mul_div]

theorem Party.complete_fare {x : Party} {q a : Nat} (h : x.fare + (q - min q x.prepaid) * a ≤ moneyMax) :
    (x.complete q a).fare = x.fare + (q - min q x.prepaid) * a ∧ (x.complete q a).saturated = x.saturated := by
  refine ⟨Nat.min_eq_right h, ?_⟩
  show (x.saturated || decide _) = x.saturated
  rw [decide_eq_false (Nat.not_lt.mpr h), Bool.or_false]

theorem Party.complete_saturated {x : Party} {q a : Nat} (h : moneyMax < x.fare + (q - min q x.prepaid) * a) :
    (x.complete q a).fare = moneyMax ∧ (x.complete q a).saturated = true := by
  refine ⟨Nat.min_eq_left (Nat.le_of_lt h), ?_⟩
  show (x.saturated || decide _) = true
  rw [decide_eq_true h, Bool.or_true]

theorem isCharged_iff (x : Party) : isCharged (some x) = true ↔ x.state = .running ∧ x.joining = false := by
  simp [isCharged]

/-- Settles O16: the charge adds the contribution and takes the whole steps out; what follows it in the closure leaves its
figures, but for the progress that a switch loses. -/
theorem chargedPartyAdvances : Obligations.ChargedPartyAdvances := by
  refine ⟨fun x => ⟨rfl, isCharged_iff x⟩, fun s => s.slotList_eq_map_party, ?_⟩
  intro s sense i x r hp hx hrunning hjoining hr n p f td tt dc tc c q u
  have hc : c = r.contribution s.meas.cal.k p n := by
    rw [Tariff.contribution_eq, Tariff.distanceGain, Tariff.timeGain, Tariff.weight_eq]
    rfl
  have hq : q = (x.progress + r.contribution s.meas.cal.k p n) / r.threshold s.meas.cal.k := by
    rw [← hc]
    rfl
  obtain ⟨y, hy, hrest, hkept, hlost⟩ := (x.charge r s.meas.cal.k p n).reselected_rest s.store
  refine ⟨windowClose sense s, y, exec_windowClose sense hp, ?_, ?_⟩
  · rw [windowClose_party, hx, Option.map_some, Party.atClosure_charged hrunning hjoining hr]
    exact congrArg some hy
  have hcharge : x.charge r s.meas.cal.k p n = { x.complete q r.stepAmount with
      progress := x.progress + c - q * (td * tt * 256), pulses := satAdd max32 x.pulses p
      windows := satAdd max32 x.windows 1, mostConcurrent := max x.mostConcurrent n } := by
    have hprogress : x.progress + c - q * (td * tt * 256) =
        (x.progress + r.contribution s.meas.cal.k p n) % r.threshold s.meas.cal.k := by
      rw [hq, hc]
      exact sub_div_mul _ _
    rw [Party.charge, hprogress, hq]
  rw [hcharge] at hrest hkept hlost
  have hfare : y.fare = (x.complete q r.stepAmount).fare ∧ y.saturated = (x.complete q r.stepAmount).saturated := by
    rw [hrest]
    exact ⟨rfl, rfl⟩
  rw [hfare.1, hfare.2]
  refine ⟨by rw [hrest]; rfl, by rw [hrest]; rfl, Party.complete_fare, Party.complete_saturated, by rw [hrest]; rfl,
    by rw [hrest]; rfl, by rw [hrest], fun h => (hkept h).1, fun h => (hlost h).1⟩

/-! ## Joining and re-selection (R41, R42, R50, R51) -/

theorem Party.atClosure_idle {x : Party} (h : x.state ≠ .running) (store : TariffStore) (k p n : Nat) :
    x.atClosure store k p n = x := if_neg h

theorem Party.atClosure_running_eq {x : Party} (h : x.state = .running) (store : TariffStore) (k p n : Nat) :
    x.atClosure store k p n = ((x.metered store k p n).reselect store).zoneEntry store := if_pos h

theorem Party.metered_joining {x : Party} (h : x.joining = true) (store : TariffStore) (k p n : Nat) :
    x.metered store k p n = { x with joining := false } := if_pos h

/-- A charge leaves the tariff and what no closure works on. -/
theorem Party.metered_rest (x : Party) (store : TariffStore) (k p n : Nat) :
    (x.metered store k p n).current = x.current ∧ (x.metered store k p n).first = x.first ∧
    (x.metered store k p n).pin = x.pin ∧ (x.metered store k p n).hire = x.hire ∧ (x.metered store k p n).tip = x.tip ∧
    (x.metered store k p n).tenders = x.tenders ∧ (x.metered store k p n).switches = x.switches := by
  unfold Party.metered
  split <;> exact ⟨rfl, rfl, rfl, rfl, rfl, rfl, rfl⟩

/-- Settles O17: a joining party's charge clears its flag alone; every RUNNING party's charge is followed by the
re-selection. -/
theorem partiesJoinAndAreReselected : Obligations.PartiesJoinAndAreReselected := by
  refine ⟨fun s sense i hp => ⟨windowClose sense s, exec_windowClose sense hp, fun hx => ?vacant, fun x hx hidle => ?idle,
    fun x hx hrunning hjoining => ?joins⟩, fun s sense i x hp hx hrunning => ?reselected⟩
  case vacant => rw [windowClose_party, hx, Option.map_none]
  case idle => rw [windowClose_party, hx, Option.map_some, Party.atClosure_idle hidle]
  case joins =>
    obtain ⟨y, hy, hrest, hkept, -⟩ := Party.reselected_rest { x with joining := false } s.store
    refine ⟨y, ?_, ?_⟩
    · rw [windowClose_party, hx, Option.map_some, Party.atClosure_running_eq hrunning, Party.metered_joining hjoining, hy]
    · refine ⟨?_, ?_, ?_, ?_, ?_, ?_, ?_, ?_, fun h => (hkept h).1⟩ <;> rw [hrest]
      exact hrunning
  case reselected =>
    obtain ⟨hcurrent, hfirst, hpin, hhire, htip, htenders, hswitches⟩ :=
      x.metered_rest s.store s.meas.cal.k s.meas.charged s.shareCount
    obtain ⟨y, hy, hrest, hkept, hlost⟩ :=
      (x.metered s.store s.meas.cal.k s.meas.charged s.shareCount).reselected_rest s.store
    rw [hcurrent, hswitches] at hkept hlost
    refine ⟨windowClose sense s, y, exec_windowClose sense hp, ?_, ?_, ?_, ?_, ?_, ?_, ?_, fun h => (hkept h).2, hlost⟩
    · rw [windowClose_party, hx, Option.map_some, Party.atClosure_running_eq hrunning, hy]
    · rw [hrest, hpin]
    · rw [hrest, hfirst]
    · rw [hrest, hpin]
    · rw [hrest, hhire]
    · rw [hrest, htip]
    · rw [hrest, htenders]

/-! ## Pulses and metres (R130, R143) -/

theorem carriedRemainder_eq (rem k p : Nat) : carriedRemainder rem k p = (rem + 1000 * p) % k := sub_div_mul _ _

theorem Shift.gain_totals (u : Shift) (f : Counters → Counters) : (u.gain f).totals = u.totals := by
  unfold Shift.gain
  split <;> rfl

theorem windowClose_totals (s : State) (sense : LampSense) : (windowClose sense s).shift.totals =
    s.shift.totals.carry s.meas.cal.k s.meas.charged (decide (1 ≤ s.shareCount)) := by
  obtain ⟨-, -, hshift, -⟩ := windowClose_parts s sense
  rw [hshift, State.closed]
  dsimp only
  rw [Shift.gain_totals]

/-- Settles O19: the carry keeps what the whole metres leave, and the gains are those of one event of an OPEN shift. -/
theorem pulsesBecomeMetres : Obligations.PulsesBecomeMetres := by
  intro s sense hp hk p k n h
  have hh : (if decide (1 ≤ s.shareCount) = true then s.meas.charged else 0) = h := by simp only [decide_eq_true_eq]; rfl
  refine ⟨windowClose sense s, exec_windowClose sense hp, ?_⟩
  rw [windowClose_totals, Totals.carry, hh]
  simp only [carriedRemainder_eq]
  refine ⟨Nat.mod_lt _ hk, Nat.mod_lt _ hk, rfl, rfl, rfl, rfl, trivial, trivial, fun hopen => ?gains⟩
  case gains =>
    rw [windowClose_counters, if_pos hopen, Counters.atClosure, hh]
    exact ⟨rfl, rfl, rfl⟩

/-! ## The activation of an armed set (R26) -/

theorem State.closed_nonVacant (s : State) (sense : LampSense) : (s.closed sense).nonVacant = s.nonVacant := by
  rw [State.nonVacant_eq_countP_party, State.nonVacant_eq_countP_party]
  exact List.countP_congr fun i _ => by rw [State.closed_party, Option.isSome_map]

theorem Shift.gain_state (u : Shift) (f : Counters → Counters) : (u.gain f).state = u.state := by
  unfold Shift.gain
  split <;> rfl

theorem State.closed_shift_state (s : State) (sense : LampSense) : (s.closed sense).shift.state = s.shift.state :=
  Shift.gain_state _ _

/-- The conditions of R26, judged after the closure's other work as before it. -/
theorem State.closed_mayActivate (s : State) (sense : LampSense) : (s.closed sense).mayActivate = true ↔
    s.nonVacant = 0 ∧ (if s.shift.state = .opened then 2 else 1) ≤ s.journal.free ∧ s.journal.places.length < 4 := by
  simp only [State.mayActivate, State.closed_nonVacant, State.closed_shift_state, Bool.and_eq_true, decide_eq_true_eq,
    RecordStore.placeFree, and_assoc]
  exact Iff.rfl

theorem State.tryActivate_armed {s : State} {v : BitVec 16} (h : s.store.stage = .armed v) (hmay : s.mayActivate = true) :
    s.tryActivate = { s with
      store := { s.store with stage := .activating v }, journal := s.journal.append (.tariff s.store.activeVersion v) } := by
  simp only [State.tryActivate, h, if_pos hmay]

theorem State.tryActivate_waits {s : State} {v : BitVec 16} (h : s.store.stage = .armed v) (hmay : ¬s.mayActivate = true) :
    s.tryActivate = s := by
  simp only [State.tryActivate, h, if_neg hmay]

/-- Settles O20: the three conditions are those of the activation, which replaces the stage and queues an entry. -/
theorem armedSetActivates : Obligations.ArmedSetActivates := by
  intro s sense v hp harmed
  have hclosed : (s.closed sense).store.stage = .armed v := harmed
  obtain ⟨-, -, -, -, -, -, -, hstore, hjournal, -⟩ := windowClose_parts s sense
  refine ⟨windowClose sense s, exec_windowClose sense hp, ?active, ?staged, fun hvacant hroom hplace => ?activates,
    fun hshut => ?waits⟩
  case active => rw [hstore, State.tryActivate_store]; rfl
  case staged => rw [hstore, State.tryActivate_store]; rfl
  case activates =>
    rw [hstore, hjournal, State.tryActivate_armed hclosed ((s.closed_mayActivate sense).mpr ⟨hvacant, hroom, hplace⟩)]
    exact ⟨rfl, RecordStore.append_place hplace _⟩
  case waits =>
    have hmay : ¬(s.closed sense).mayActivate = true := by
      rw [State.closed_mayActivate]
      omega
    rw [hstore, hjournal, State.tryActivate_waits hclosed hmay]
    exact ⟨harmed, rfl⟩

/-! ## The lamps and the codecs (R148, R152, R155, R156, R160) -/

theorem Sign.close_lamp (g : Sign) (period : Period) (sense : LampSense) (i : Fin 4) :
    (g.close period sense).lamps[i] = (g.lamps[i]).sample (g.channelLit i g.lamps[i]) (senseAt sense i) :=
  mapVectorIdx_getElem _ _ _

theorem Lamp.sample_dark (l : Lamp) : l.sample true false =
    { l with dark := min 3 (l.dark + 1), latch := l.latch || decide (3 ≤ l.dark + 1) } := by
  have hlatch : decide (2 ≤ l.dark) = decide (3 ≤ l.dark + 1) := decide_eq_decide.mpr ⟨by omega, by omega⟩
  rw [← hlatch]
  rfl

/-- The faults that a closure latches, channel by channel. -/
theorem Sign.onsets_eq (g : Sign) (sense : LampSense) : g.onsets sense = (List.finRange 4).countP (fun i : Fin 4 =>
    g.channelLit i g.lamps[i] && !senseAt sense i && !(g.lamps[i]).latch && decide (2 ≤ (g.lamps[i]).dark)) := by
  have hlist : (mapVectorIdx (fun i l => l.onset (g.channelLit i l) (senseAt sense i)) g.lamps).toArray.toList =
      (List.finRange 4).map fun i : Fin 4 => (g.lamps[i]).onset (g.channelLit i g.lamps[i]) (senseAt sense i) := by
    refine List.ext_getElem (by simp) fun i hi hi' => ?_
    have hi4 : i < 4 := by simpa using hi'
    have hat := mapVectorIdx_getElem (fun i l => Lamp.onset l (g.channelLit i l) (senseAt sense i)) g.lamps ⟨i, hi4⟩
    simpa using hat
  rw [Sign.onsets, hlist, List.countP_map]
  rfl

section Codec

variable {c : Codec}

theorem goodWindow_iff (frames : Nat) : goodWindow frames = true ↔ 1584 ≤ frames ∧ frames ≤ 1616 := by
  simp [goodWindow]

theorem Codec.close_good_sound (hfault : c.fault = false) (h : goodWindow c.frames = true) :
    c.close = { c with badRun := 0, lastFrames := c.frames, frames := 0 } := by
  simp [Codec.close, Codec.classify, hfault, h]

theorem Codec.close_bad_sound (hfault : c.fault = false) (h : ¬goodWindow c.frames = true) : c.close = { c with
    fault := decide (1 ≤ c.badRun), badRun := if 1 ≤ c.badRun then 0 else c.badRun + 1, lastFrames := c.frames, frames := 0 } := by
  by_cases hrun : 1 ≤ c.badRun
  · have hrun' : 2 ≤ c.badRun + 1 := by omega
    simp [Codec.close, Codec.classify, hfault, h, hrun, hrun']
  · have hrun' : ¬2 ≤ c.badRun + 1 := by omega
    simp [Codec.close, Codec.classify, hfault, h, hrun, hrun']

theorem Codec.close_good_faulty (hfault : c.fault = true) (h : goodWindow c.frames = true) : c.close = { c with
    fault := decide (c.goodRun = 0), goodRun := if c.goodRun = 0 then 1 else 0, lastFrames := c.frames, frames := 0 } := by
  by_cases hrun : c.goodRun = 0
  · simp [Codec.close, Codec.classify, hfault, h, hrun]
  · have hrun' : 2 ≤ c.goodRun + 1 := by omega
    simp [Codec.close, Codec.classify, hfault, h, hrun, hrun']

theorem Codec.close_bad_faulty (hfault : c.fault = true) (h : ¬goodWindow c.frames = true) :
    c.close = { c with goodRun := 0, lastFrames := c.frames, frames := 0 } := by
  simp [Codec.close, Codec.classify, hfault, h]

theorem Codec.close_frames (c : Codec) : c.close.lastFrames = c.frames ∧ c.close.frames = 0 := ⟨rfl, rfl⟩

end Codec

theorem windowClose_codec (s : State) (sense : LampSense) (side : CodecSide) :
    (windowClose sense s).intercom.codecs.get side = (s.intercom.codecs.get side).close := by
  obtain ⟨-, -, -, -, -, -, hcodecs, -⟩ := windowClose_parts s sense
  rw [hcodecs]
  cases side <;> rfl

theorem windowClose_lamp (s : State) (sense : LampSense) (i : Fin 4) : (windowClose sense s).sign.lamps[i] =
    (s.sign.lamps[i]).sample (s.sign.channelLit i s.sign.lamps[i]) (senseAt sense i) := by
  obtain ⟨-, -, -, hsign, -⟩ := windowClose_parts s sense
  rw [hsign, Sign.close_lamp]

/-- The channels of the modes of R148 in their on phases, where no override forces them. -/
theorem Sign.channelLit_normal {g : Sign} {i : Fin 4} {l : Lamp} (h : l.override = .normal) : g.channelLit i l = true ↔
    g.state = .offDuty ∧ i = 3 ∨ g.state = .free ∧ i = 0 ∨ g.state = .onCall ∧ i = 0 ∧ g.phase < 100 ∨
      g.state = .shareOpen ∧ (i = 1 ∨ i = 2) ∨ g.state = .hired ∧ i = 1 ∨ g.state = .arrived ∧ i = 1 ∧ g.phase < 500 := by
  have hlast : ((3 : Fin 4) : Nat) = 3 := rfl
  simp only [Sign.channelLit, h]
  cases g.state <;> match i with
    | 0 | 1 | 2 | 3 => simp [channelMode, ChannelMode.lit, hlast]

/-- Settles O21: each lamp takes its sample, each codec its class, and the onsets are counted channel by channel. -/
theorem lampsAndCodecsAreJudged : Obligations.LampsAndCodecsAreJudged := by
  refine ⟨fun s sense hp => ⟨windowClose sense s, exec_windowClose sense hp, ?sign, fun i => ⟨fun hdark => ?unlit,
    fun hlit hsense => ?present, fun hlit hsense => ?absent⟩, fun side => ?codec, fun hopen => ?counted, fun hshut => ?kept⟩,
    fun x => ⟨rfl, rfl, rfl, rfl⟩, fun g i l => ⟨fun h => ?forcedOn, fun h => ?forcedOff, Sign.channelLit_normal⟩⟩
  case sign =>
    obtain ⟨-, -, -, hsign, -⟩ := windowClose_parts s sense
    rw [hsign, Sign.close, Sign.levelFor_eq]
  case unlit => rw [windowClose_lamp, hdark]; rfl
  case present => rw [windowClose_lamp, hlit, hsense]; rfl
  case absent => rw [windowClose_lamp, hlit, hsense, Lamp.sample_dark]
  case codec =>
    intro c d
    have hd : d = c.close := windowClose_codec s sense side
    rw [hd]
    simp only [← goodWindow_iff]
    obtain ⟨hlast, hframes⟩ := c.close_frames
    refine ⟨hlast, hframes, fun hfault h => ?_, fun hfault h => ?_, fun hfault h => ?_, fun hfault h => ?_⟩
    · rw [Codec.close_good_sound hfault h]; exact ⟨hfault, rfl⟩
    · rw [Codec.close_bad_sound hfault h]
      refine ⟨rfl, ?_⟩
      dsimp only
      split <;> omega
    · rw [Codec.close_good_faulty hfault h]; exact ⟨rfl, rfl⟩
    · rw [Codec.close_bad_faulty hfault h]; exact ⟨hfault, rfl⟩
  case counted => rw [windowClose_counters, if_pos hopen, ← Sign.onsets_eq]; rfl
  case kept => rw [windowClose_counters, if_neg hshut]
  case forcedOn => simp only [Sign.channelLit, h]
  case forcedOff => simp only [Sign.channelLit, h]

end Sys2Proof.Machine
end


section
/-! The tariff store (chapter 2): what an item's field bytes carry, the staging requests, the clock and the zone. -/

namespace Sys2Proof.Machine

/-! ## The numbers in the field bytes (R203) -/

theorem itemField_eq (f : BitVec 176) (offset n : Nat) : itemField f offset n = f.toNat / 256 ^ offset % 256 ^ n := by
  rw [itemField, BitVec.extractLsb'_toNat, Nat.shiftRight_eq_div_pow, Nat.pow_mul, Nat.pow_mul]

/-- A one-byte field is its own byte. -/
theorem itemField_byte (f : BitVec 176) (offset : Nat) : (BitVec.ofNat 8 (itemField f offset 1)).toNat = itemField f offset 1 := by
  rw [BitVec.toNat_ofNat, Nat.mod_eq_of_lt (itemField_lt f offset 1)]

theorem numberOf_iff {b : Byte} {i : Fin 8} : numberOf b = some i ↔ i.val + 1 = b.toNat := by
  refine ⟨fun h => ?_, fun h => numberOf_eq h.symm⟩
  unfold numberOf at h
  split at h
  · cases h
    show b.toNat - 1 + 1 = b.toNat
    omega
  · cases h

theorem optionalNumberOf_iff {b : Byte} {x : Option (Fin 8)} :
    optionalNumberOf b = some x ↔ (x.map (·.val + 1)).getD 0 = b.toNat := by
  unfold optionalNumberOf
  split
  · next h =>
    rw [h, Option.some.injEq]
    cases x <;> simp
  · next h =>
    cases x with
    | none => simpa using fun h' => h h'.symm
    | some i => simp [Option.map_eq_some_iff, numberOf_iff]

theorem portSetOf_iff {b : Byte} {x : PortSet} : portSetOf b = some x ↔ b.toNat = portSetCode x := by
  have hcode : ∀ n : Fin 8, ∀ c p f : Bool, (⟨(BitVec.ofNat 8 n).getLsbD 0, (BitVec.ofNat 8 n).getLsbD 1,
      (BitVec.ofNat 8 n).getLsbD 2⟩ : PortSet) = ⟨c, p, f⟩ ↔ n.val = portSetCode ⟨c, p, f⟩ := by decide
  have hlt : portSetCode x < 8 := by
    obtain ⟨c, p, f⟩ := x
    cases c <;> cases p <;> cases f <;> decide
  unfold portSetOf
  split
  · next h =>
    have hbits := hcode ⟨b.toNat, h⟩ x.console x.partition x.fleet
    simp only [BitVec.ofNat_toNat, BitVec.setWidth_eq] at hbits
    rwa [Option.some.injEq]
  · next h => simp only [reduceCtorEq, false_iff]; omega

/-! ## The items (R18 to R21) -/

theorem tariffOf_iff (f : BitVec 176) (r : Tariff) : tariffOf f = some r ↔
    r.flagFall = itemField f 0 4 ∧ r.prepaid = itemField f 4 1 ∧ r.stepAmount = itemField f 5 4 ∧
    r.distanceStep = itemField f 9 2 ∧ r.timeStep = itemField f 11 2 ∧
    (r.mode = .single ∧ itemField f 13 1 = 0 ∨ r.mode = .double ∧ itemField f 13 1 = 1) ∧ r.f1 = itemField f 14 2 ∧
    r.f2 = itemField f 16 2 ∧ r.f3 = itemField f 18 2 ∧ r.f4 = itemField f 20 2 ∧
    r.flagFall ≤ 99999 ∧ r.prepaid ≤ 255 ∧ 1 ≤ r.stepAmount ∧ r.stepAmount ≤ 100000 ∧ 1 ≤ r.distanceStep ∧
    r.distanceStep ≤ 2000 ∧ 1 ≤ r.timeStep ∧ r.timeStep ≤ 600 ∧ 1 ≤ r.f1 ∧ r.f1 ≤ 256 ∧ 1 ≤ r.f2 ∧ r.f2 ≤ 256 ∧
    1 ≤ r.f3 ∧ r.f3 ≤ 256 ∧ 1 ≤ r.f4 ∧ r.f4 ≤ 256 := by
  have hprepaid : itemField f 4 1 < 2 ^ (8 * 1) := itemField_lt f 4 1
  obtain ⟨flagFall, prepaid, stepAmount, distanceStep, timeStep, mode, f1, f2, f3, f4⟩ := r
  unfold tariffOf
  dsimp only
  constructor
  · intro h
    split at h
    · next hok =>
      cases h
      refine ⟨rfl, rfl, rfl, rfl, rfl, ?_, rfl, rfl, rfl, rfl, by omega⟩
      by_cases hmode : itemField f 13 1 = 0
      · exact .inl ⟨if_pos hmode, hmode⟩
      · exact .inr ⟨if_neg hmode, by omega⟩
    · cases h
  · rintro ⟨rfl, rfl, rfl, rfl, rfl, hmode, rfl, rfl, rfl, rfl, hranges⟩
    obtain ⟨rfl, hmode⟩ | ⟨rfl, hmode⟩ := hmode
    · rw [if_pos (by omega), if_pos hmode]
    · rw [if_pos (by omega), if_neg (by omega)]

theorem extraKindOf_iff (f : BitVec 176) (r : ExtraKind) : extraKindOf f = some r ↔
    (r.cls = .surcharge ∧ itemField f 0 1 = 0 ∨ r.cls = .passThrough ∧ itemField f 0 1 = 1) ∧ r.amount = itemField f 1 4 ∧
    r.amount ≤ 99999 ∧ r.permitted.partition = false ∧
    itemField f 5 1 = (if r.permitted.console then 1 else 0) + (if r.permitted.fleet then 4 else 0) := by
  have hcode : ∀ x : PortSet, x.partition = false →
      portSetCode x = (if x.console then 1 else 0) + (if x.fleet then 4 else 0) := fun x hx => by simp [portSetCode, hx]
  have hports (x : PortSet) : portSetOf (BitVec.ofNat 8 (itemField f 5 1)) = some x ↔ itemField f 5 1 = portSetCode x := by
    rw [portSetOf_iff, itemField_byte]
  obtain ⟨cls, amount, permitted⟩ := r
  unfold extraKindOf
  dsimp only
  constructor
  · intro h
    split at h
    · cases h
    · next ports hp =>
      split at h
      · next hok =>
        obtain ⟨hclass, hamount, hpartition⟩ := hok
        cases h
        refine ⟨?_, rfl, hamount, hpartition, ((hports permitted).mp hp).trans (hcode permitted hpartition)⟩
        by_cases hcls : itemField f 0 1 = 0
        · exact .inl ⟨if_pos hcls, hcls⟩
        · exact .inr ⟨if_neg hcls, by omega⟩
      · cases h
  · rintro ⟨hclass, rfl, hamount, hpartition, hset⟩
    rw [(hports permitted).mpr (hset.trans (hcode permitted hpartition).symm)]
    obtain ⟨rfl, hcls⟩ | ⟨rfl, hcls⟩ := hclass
    · simp [hcls, hamount, hpartition]
    · simp [hcls, hamount, hpartition]

theorem zoneRuleOf_iff (f : BitVec 176) (r : ZoneRule) : zoneRuleOf f = some r ↔
    r.value.toNat = itemField f 0 2 ∧ r.mask.toNat = itemField f 2 2 ∧
    (r.day.map (·.val + 1)).getD 0 = itemField f 4 1 ∧ (r.night.map (·.val + 1)).getD 0 = itemField f 5 1 ∧
    (r.holiday.map (·.val + 1)).getD 0 = itemField f 6 1 ∧ (r.entryExtra.map (·.val + 1)).getD 0 = itemField f 7 1 := by
  have hword (offset : Nat) (x : BitVec 16) : BitVec.ofNat 16 (itemField f offset 2) = x ↔ x.toNat = itemField f offset 2 := by
    rw [← BitVec.toNat_inj, BitVec.toNat_ofNat, Nat.mod_eq_of_lt (itemField_lt f offset 2), eq_comm]
  have hnumber (offset : Nat) (x : Option (Fin 8)) : optionalNumberOf (BitVec.ofNat 8 (itemField f offset 1)) = some x ↔
      (x.map (·.val + 1)).getD 0 = itemField f offset 1 := by
    rw [optionalNumberOf_iff, itemField_byte]
  obtain ⟨value, mask, day, night, holiday, entry⟩ := r
  dsimp only
  rw [← hword, ← hword, ← hnumber, ← hnumber, ← hnumber, ← hnumber]
  unfold zoneRuleOf
  constructor
  · intro h
    split at h
    · next hday hnight hholiday hentry =>
      cases h
      exact ⟨rfl, rfl, hday, hnight, hholiday, hentry⟩
    · cases h
  · rintro ⟨hvalue, hmask, hday, hnight, hholiday, hentry⟩
    rw [hvalue, hmask, hday, hnight, hholiday, hentry]

theorem defaultsOf_iff (f : BitVec 176) (t d : TariffSet) : defaultsOf f t = some d ↔
    d = { t with defaultDay := d.defaultDay, defaultNight := d.defaultNight, defaultHoliday := d.defaultHoliday
                 nightStart := d.nightStart, nightEnd := d.nightEnd } ∧
    d.defaultDay.val + 1 = itemField f 0 1 ∧ d.defaultNight.val + 1 = itemField f 1 1 ∧
    d.defaultHoliday.val + 1 = itemField f 2 1 ∧ d.nightStart = itemField f 3 2 ∧ d.nightEnd = itemField f 5 2 ∧
    d.nightStart ≤ 1439 ∧ d.nightEnd ≤ 1439 := by
  have hnumber (offset : Nat) (i : Fin 8) : numberOf (BitVec.ofNat 8 (itemField f offset 1)) = some i ↔
      i.val + 1 = itemField f offset 1 := by
    rw [numberOf_iff, itemField_byte]
  rw [← hnumber, ← hnumber, ← hnumber]
  unfold defaultsOf
  constructor
  · intro h
    split at h
    · next hday hnight hholiday =>
      split at h
      · next hok =>
        cases h
        exact ⟨rfl, hday, hnight, hholiday, rfl, rfl, hok.1, hok.2⟩
      · cases h
    · cases h
  · rintro ⟨hrest, hday, hnight, hholiday, hstart, hend, hlow, hhigh⟩
    rw [hday, hnight, hholiday]
    rw [hstart] at hlow
    rw [hend] at hhigh
    dsimp only
    rw [if_pos ⟨hlow, hhigh⟩, ← hstart, ← hend, ← hrest]

/-! ## The staging requests (R23 to R25) -/

section Staging

variable {s : State}

theorem tariffBegin_taken (h : s.store.stage.isActivating = false) : tariffBegin s =
    ⟨{ s with store := { s.store with staged := TariffSet.empty, stage := .loading } }, .ok, []⟩ := by
  unfold tariffBegin
  split
  · next v hv => rw [hv] at h; cases h
  · rfl

theorem tariffBegin_busy {v : BitVec 16} (h : s.store.stage = .activating v) : tariffBegin s = refuse s .busy := by
  simp only [tariffBegin, h]

variable {code n form : Byte} {fields : BitVec 176} {kind : ItemKind}

theorem form_accepted {kind : ItemKind} {form : Byte} (hform : kind = .defaults ∨ form.toNat ≤ 1) :
    ¬(kind ≠ .defaults ∧ 1 < form.toNat) := fun ⟨hk, hf⟩ => hform.elim hk (Nat.not_le.mpr hf)

theorem tariffItem_written {t : TariffSet} (hkind : itemKindOf code = some kind) (hform : kind = .defaults ∨ form.toNat ≤ 1)
    (hstage : s.store.stage = .loading) (ht : s.store.staged.write kind n form fields = some t) :
    tariffItem code n form fields s = ⟨{ s with store := { s.store with staged := t } }, .ok, []⟩ := by
  simp only [tariffItem, hkind]
  rw [if_neg (form_accepted hform), if_neg (not_not_intro hstage), ht]

theorem tariffItem_out (hkind : itemKindOf code = some kind) (hform : kind = .defaults ∨ form.toNat ≤ 1)
    (hstage : s.store.stage = .loading) (ht : s.store.staged.write kind n form fields = none) :
    tariffItem code n form fields s = refuse s .range := by
  simp only [tariffItem, hkind]
  rw [if_neg (form_accepted hform), if_neg (not_not_intro hstage), ht]

theorem tariffItem_state (hkind : itemKindOf code = some kind) (hform : kind = .defaults ∨ form.toNat ≤ 1)
    (hstage : s.store.stage ≠ .loading) : tariffItem code n form fields s = refuse s .state := by
  simp only [tariffItem, hkind]
  rw [if_neg (form_accepted hform), if_pos hstage]

theorem tariffItem_form (hkind : itemKindOf code = some kind) (hk : kind ≠ .defaults) (hform : 1 < form.toNat) :
    tariffItem code n form fields s = refuse s .range := by
  simp only [tariffItem, hkind]
  exact if_pos ⟨hk, hform⟩

theorem tariffItem_kind (hkind : itemKindOf code = none) : tariffItem code n form fields s = refuse s .range := by
  simp only [tariffItem, hkind]

theorem tariffCommit_state (v : BitVec 16) (h : s.store.stage ≠ .loading) : tariffCommit v s = refuse s .state := if_pos h

theorem tariffCommit_armed (v : BitVec 16) (h : s.store.stage = .loading) (hpass : s.store.staged.commitFailure = none) :
    tariffCommit v s = ⟨{ s with store := { s.store with stage := .armed v } }, .ok, []⟩ := by
  rw [tariffCommit, if_neg (not_not_intro h), hpass]

theorem tariffCommit_fails (v : BitVec 16) {check m : Nat} (h : s.store.stage = .loading)
    (hfail : s.store.staged.commitFailure = some (check, m)) :
    tariffCommit v s = ⟨s, .range, u8 check ++ u8 m⟩ := by
  rw [tariffCommit, if_neg (not_not_intro h), hfail]

end Staging

/-! ## The write of an item (R24) -/

section Write

variable (u : TariffSet) {n form : Byte} (fields : BitVec 176)

theorem TariffSet.write_tariff_absent {i : Fin 8} (h : n.toNat = i.val + 1) :
    u.write .tariff n 0#8 fields = some { u with tariffs := u.tariffs.set i none } := by
  simp only [TariffSet.write, numberOf_eq h]
  rfl

theorem TariffSet.write_tariff_present {i : Fin 8} {r : Tariff} (h : n.toNat = i.val + 1) (hform : form ≠ 0)
    (hr : tariffOf fields = some r) : u.write .tariff n form fields = some { u with tariffs := u.tariffs.set i (some r) } := by
  simp only [TariffSet.write, numberOf_eq h, if_neg hform, hr, Option.map_some]

theorem TariffSet.write_kind_absent {i : Fin 8} (h : n.toNat = i.val + 1) :
    u.write .extraKind n 0#8 fields = some { u with extraKinds := u.extraKinds.set i none } := by
  simp only [TariffSet.write, numberOf_eq h]
  rfl

theorem TariffSet.write_kind_present {i : Fin 8} {r : ExtraKind} (h : n.toNat = i.val + 1) (hform : form ≠ 0)
    (hr : extraKindOf fields = some r) :
    u.write .extraKind n form fields = some { u with extraKinds := u.extraKinds.set i (some r) } := by
  simp only [TariffSet.write, numberOf_eq h, if_neg hform, hr, Option.map_some]

theorem TariffSet.write_rule_empty {i : Fin 16} (h : n.toNat = i.val + 1) :
    u.write .zoneRule n 0#8 fields = some { u with zoneRules := u.zoneRules.set i none } := by
  simp only [TariffSet.write, ruleNumberOf_eq h]
  rfl

theorem TariffSet.write_rule_present {i : Fin 16} {r : ZoneRule} (h : n.toNat = i.val + 1) (hform : form ≠ 0)
    (hr : zoneRuleOf fields = some r) :
    u.write .zoneRule n form fields = some { u with zoneRules := u.zoneRules.set i (some r) } := by
  simp only [TariffSet.write, ruleNumberOf_eq h, if_neg hform, hr, Option.map_some]

theorem numberOf_none {b : Byte} (h : b.toNat < 1 ∨ 8 < b.toNat) : numberOf b = none := dif_neg (by omega)

theorem ruleNumberOf_none {b : Byte} (h : b.toNat < 1 ∨ 16 < b.toNat) : ruleNumberOf b = none := dif_neg (by omega)

theorem TariffSet.write_number {kind : ItemKind} (hkind : kind = .tariff ∨ kind = .extraKind)
    (h : n.toNat < 1 ∨ 8 < n.toNat) : u.write kind n form fields = none := by
  obtain rfl | rfl := hkind <;> simp only [TariffSet.write, numberOf_none h]

theorem TariffSet.write_rule_number (h : n.toNat < 1 ∨ 16 < n.toNat) : u.write .zoneRule n form fields = none := by
  simp only [TariffSet.write, ruleNumberOf_none h]

theorem TariffSet.write_tariff_fields (hform : form ≠ 0) (h : tariffOf fields = none) :
    u.write .tariff n form fields = none := by
  simp only [TariffSet.write, h, if_neg hform, Option.map_none]
  split <;> rfl

theorem TariffSet.write_kind_fields (hform : form ≠ 0) (h : extraKindOf fields = none) :
    u.write .extraKind n form fields = none := by
  simp only [TariffSet.write, h, if_neg hform, Option.map_none]
  split <;> rfl

theorem TariffSet.write_rule_fields (hform : form ≠ 0) (h : zoneRuleOf fields = none) :
    u.write .zoneRule n form fields = none := by
  simp only [TariffSet.write, h, if_neg hform, Option.map_none]
  split <;> rfl

end Write

/-! ## The codes of the item kinds -/

/-- The kind of an item's code (R24). -/
theorem itemKindOf_cases (b : Byte) :
    (b.toNat = 0 ∧ itemKindOf b = some .tariff) ∨ (b.toNat = 1 ∧ itemKindOf b = some .extraKind) ∨
    (b.toNat = 2 ∧ itemKindOf b = some .zoneRule) ∨ (b.toNat = 3 ∧ itemKindOf b = some .defaults) ∨
    (3 < b.toNat ∧ itemKindOf b = none) := by
  unfold itemKindOf
  split
  · simp_all
  split
  · simp_all
  split
  · simp_all
  split
  · simp_all
  · right; right; right; right
    exact ⟨by omega, rfl⟩

theorem itemKindOf_some {b : Byte} (h : b.toNat ≤ 3) :
    ∃ kind, itemKindOf b = some kind ∧ (kind = .defaults ↔ b.toNat = 3) := by
  obtain ⟨hb, hk⟩ | ⟨hb, hk⟩ | ⟨hb, hk⟩ | ⟨hb, hk⟩ | ⟨hb, hk⟩ := itemKindOf_cases b
  case inr.inr.inr.inr => omega
  all_goals exact ⟨_, hk, by simp [hb]⟩

theorem itemKindOf_none {b : Byte} (h : 3 < b.toNat) : itemKindOf b = none := by
  obtain ⟨hb, hk⟩ | ⟨hb, hk⟩ | ⟨hb, hk⟩ | ⟨hb, hk⟩ | ⟨hb, hk⟩ := itemKindOf_cases b
  case inr.inr.inr.inr => exact hk
  all_goals omega

theorem itemKindOf_of_toNat {b c : Byte} {kind : ItemKind} (h : b.toNat = c.toNat) (hc : itemKindOf c = some kind) :
    itemKindOf b = some kind :=
  BitVec.eq_of_toNat_eq h ▸ hc

theorem form_ne_zero {form : Byte} (h : form.toNat = 1) : form ≠ 0 := by
  rintro rfl
  cases h

/-- Settles O22: each request's outcomes in their order, the write of each kind of item, and the fields that each kind
reads. -/
theorem stagedSetIsLoaded : Obligations.StagedSetIsLoaded := by
  refine ⟨fun s hp => ⟨fun h => request_answer hp rfl (tariffBegin_taken h),
      fun v h => request_refused hp rfl (tariffBegin_busy h)⟩,
    fun s n fields hp hstage => ⟨fun i hi => ⟨?noTariff, fun r hr => ?tariff, ?noKind, fun r hr => ?extraKind⟩,
      fun i hi => ⟨?noRule, fun r hr => ?rule⟩, fun form d hd => ?defaults⟩,
    fun s code n form fields hp => ⟨?outside, ?form, fun hcode hform => ⟨?state, fun hstage => ⟨?number, ?ruleNumber,
      ?tariffFields, ?kindFields, ?ruleFields, ?defaultsFields⟩⟩⟩,
    fun s v hp => ⟨fun h => request_refused hp rfl (tariffCommit_state v h),
      fun h hpass => request_answer hp rfl (tariffCommit_armed v h hpass),
      fun check m h hfail => request_answer hp rfl (tariffCommit_fails v h hfail)⟩,
    fun fields => ?fields⟩
  case noTariff =>
    exact request_answer hp rfl (tariffItem_written rfl (.inr (by decide)) hstage (TariffSet.write_tariff_absent _ _ hi))
  case tariff =>
    exact request_answer hp rfl
      (tariffItem_written rfl (.inr (by decide)) hstage (TariffSet.write_tariff_present _ _ hi (by decide) hr))
  case noKind =>
    exact request_answer hp rfl (tariffItem_written rfl (.inr (by decide)) hstage (TariffSet.write_kind_absent _ _ hi))
  case extraKind =>
    exact request_answer hp rfl
      (tariffItem_written rfl (.inr (by decide)) hstage (TariffSet.write_kind_present _ _ hi (by decide) hr))
  case noRule =>
    exact request_answer hp rfl (tariffItem_written rfl (.inr (by decide)) hstage (TariffSet.write_rule_empty _ _ hi))
  case rule =>
    exact request_answer hp rfl
      (tariffItem_written rfl (.inr (by decide)) hstage (TariffSet.write_rule_present _ _ hi (by decide) hr))
  case defaults => exact request_answer hp rfl (tariffItem_written rfl (.inl rfl) hstage hd)
  case fields =>
    dsimp only
    simp only [← itemField_eq]
    exact ⟨tariffOf_iff fields, extraKindOf_iff fields, zoneRuleOf_iff fields, defaultsOf_iff fields⟩
  case outside => exact fun hcode => request_refused hp rfl (tariffItem_kind (itemKindOf_none hcode))
  case form =>
    intro hcode hform
    obtain ⟨kind, hkind, hdefaults⟩ := itemKindOf_some (b := code) (by omega)
    exact request_refused hp rfl (tariffItem_form hkind (fun h => by have := hdefaults.mp h; omega) hform)
  case state =>
    obtain ⟨kind, hkind, hdefaults⟩ := itemKindOf_some hcode
    exact fun hstage => request_refused hp rfl (tariffItem_state hkind (hform.imp_left hdefaults.mpr) hstage)
  case number =>
    intro hlow hn
    obtain ⟨hc, hkind⟩ | ⟨hc, hkind⟩ : code.toNat = 0 ∧ itemKindOf code = some .tariff ∨
        code.toNat = 1 ∧ itemKindOf code = some .extraKind := by
      obtain hc | hc : code.toNat = 0 ∨ code.toNat = 1 := by omega
      · exact .inl ⟨hc, itemKindOf_of_toNat (c := 0) hc rfl⟩
      · exact .inr ⟨hc, itemKindOf_of_toNat (c := 1) hc rfl⟩
    · exact request_refused hp rfl
        (tariffItem_out hkind (.inr (by omega)) hstage (TariffSet.write_number _ _ (.inl rfl) hn))
    · exact request_refused hp rfl
        (tariffItem_out hkind (.inr (by omega)) hstage (TariffSet.write_number _ _ (.inr rfl) hn))
  case ruleNumber =>
    exact fun hc hn => request_refused hp rfl (tariffItem_out (itemKindOf_of_toNat (c := 2) hc rfl) (.inr (by omega)) hstage
      (TariffSet.write_rule_number _ _ hn))
  case tariffFields =>
    exact fun hc hf hr => request_refused hp rfl (tariffItem_out (itemKindOf_of_toNat (c := 0) hc rfl) (.inr (by omega))
      hstage (TariffSet.write_tariff_fields _ _ (form_ne_zero hf) hr))
  case kindFields =>
    exact fun hc hf hr => request_refused hp rfl (tariffItem_out (itemKindOf_of_toNat (c := 1) hc rfl) (.inr (by omega))
      hstage (TariffSet.write_kind_fields _ _ (form_ne_zero hf) hr))
  case ruleFields =>
    exact fun hc hf hr => request_refused hp rfl (tariffItem_out (itemKindOf_of_toNat (c := 2) hc rfl) (.inr (by omega))
      hstage (TariffSet.write_rule_fields _ _ (form_ne_zero hf) hr))
  case defaultsFields =>
    exact fun hc hr => request_refused hp rfl (tariffItem_out (itemKindOf_of_toNat (c := 3) hc rfl) (.inl rfl) hstage hr)

end Sys2Proof.Machine
end


section
/-! The clock and the zone (R29 to R37): what each event and request leaves. -/

namespace Sys2Proof.Machine

theorem ite_of_iff {α : Type} {p q : Prop} [Decidable p] [Decidable q] (h : p ↔ q) {a b : α} :
    (if p then a else b) = if q then a else b := by simp only [h]

theorem State.raiseIf_of_iff {s : State} {c : Bool} {p : Prop} [Decidable p] (h : c = true ↔ p) (src : NoticeSource) :
    s.raiseIf c src = if p then s.raise src else s := by
  unfold State.raiseIf
  exact ite_of_iff h

/-! ## The zone reports (R34, R35) -/

theorem Zone.loses_iff (z : Zone) : z.loses = true ↔
    z.threshold ≠ 0 ∧ z.known = true ∧ z.threshold ≤ min 127 (z.uncertain + 1) := by
  rw [Zone.loses, Bool.and_eq_true, Bool.and_eq_true, decide_eq_true_eq, decide_eq_true_eq, and_assoc]
  rfl

theorem Zone.doubt_eq (z : Zone) {p : Prop} [Decidable p] (h : z.loses = true ↔ p) : z.doubt = { z with
    uncertain := min 127 (z.uncertain + 1), known := if p then false else z.known
    watch := if p then none else z.watch } := by
  unfold Zone.doubt
  by_cases hp : p
  · rw [if_pos (h.mpr hp), if_pos hp, if_pos hp]
    rfl
  · rw [if_neg (mt h.mp hp), if_neg hp, if_neg hp]
    rfl

theorem zoneReport_good (code : BitVec 16) (s : State) : zoneReport code 0#8 s =
    ⟨if s.store.zone.lastCode = some code then s.setZone (s.store.zone.adopt code)
      else (s.setZone (s.store.zone.adopt code)).raise .zoneChanged, .ok, zoneResults (s.store.zone.adopt code)⟩ := by
  show (⟨_, _, _⟩ : Answer) = _
  rw [State.raiseIf_of_iff (p := ¬ s.store.zone.lastCode = some code) (by simp), ite_not]

theorem zoneReport_uncertain (code : BitVec 16) (s : State) {p : Prop} [Decidable p] (h : s.store.zone.loses = true ↔ p) :
    zoneReport code 1#8 s = ⟨if p then (s.setZone s.store.zone.doubt).raise .zoneLost else s.setZone s.store.zone.doubt,
      .ok, zoneResults s.store.zone.doubt⟩ := by
  show (⟨_, _, _⟩ : Answer) = _
  rw [State.raiseIf_of_iff h]

theorem zoneReport_quality {quality : Byte} (h : 1 < quality.toNat) (code : BitVec 16) (s : State) :
    zoneReport code quality s = refuse s .range := by
  rw [zoneReport, flagOf_none h]

theorem codeOrZero_eq (c : Option (BitVec 16)) : codeOrZero c = (c.map (·.toNat)).getD 0 := by cases c <;> rfl

/-- R33: the zone state in the order of its table. -/
theorem zoneResults_eq (z : Zone) : zoneResults z =
    u8 (if z.lastCode.isSome then 1 else 0) ++ u8 (if z.known then 1 else 0) ++ u16 ((z.lastCode.map (·.toNat)).getD 0) ++
      u8 z.uncertain ++ u16 (z.watch.getD 0) ++ u8 z.threshold ++ u8 z.limit := by
  rw [zoneResults, presence_one, codeOrZero_eq]
  rfl

theorem zoneWatchExpiry_running {s : State} (h : s.store.zone.watch ≠ some 0) : zoneWatchExpiry s = s := if_neg h

theorem zoneWatchExpiry_out {s : State} (h : s.store.zone.watch = some 0) : zoneWatchExpiry s =
    if s.store.zone.known then (s.setZone { s.store.zone with known := false, watch := none }).raise .zoneLost
      else s.setZone { s.store.zone with known := false, watch := none } := by
  rw [zoneWatchExpiry, if_pos h]
  rfl

/-! ## The clock second (R29, R31) -/

theorem new_day_iff (n : Nat) : (n + 1) / 86400 = n / 86400 ↔ ¬ (n + 1) % 86400 = 0 := by omega

theorem TariffStore.advance_second {t : TariffStore} (hvalid : t.clockInvalid = false) (h : t.clock < max32) :
    t.advance 1 = { t with clock := t.clock + 1, holiday := t.holiday && !decide ((t.clock + 1) % 86400 = 0) } := by
  have hmax : max32 = 4294967295 := rfl
  have hclock : (t.clock + 1) % 4294967296 = t.clock + 1 := by omega
  have hmin : min max32 (t.clock + 1) = t.clock + 1 := by omega
  have hflag : decide (max32 < t.clock + 1) = t.clockInvalid := by rw [hvalid]; exact decide_eq_false (by omega)
  rw [TariffStore.advance, if_neg (by simp [hvalid]), hclock, hmin, hflag, ← decide_not,
    decide_eq_decide.mpr (new_day_iff t.clock)]

theorem TariffStore.advance_overflow {t : TariffStore} (hvalid : t.clockInvalid = false) (h : t.clock = max32) :
    t.advance 1 = { t with clock := 0, clockInvalid := true } := by
  rw [TariffStore.advance, if_neg (by simp [hvalid]), h]
  exact congrArg (fun b => { t with clock := 0, clockInvalid := true, holiday := b }) (Bool.and_true _)

theorem TariffStore.advance_unset {t : TariffStore} (hvalid : t.clockInvalid = true) :
    t.advance 1 = { t with clock := (t.clock + 1) % 4294967296 } := by
  rw [TariffStore.advance, if_pos hvalid]

theorem clockSecond_eq {s : State} {t : TariffStore} (h : s.store.advance 1 = t) : clockSecond s = { s with store := t } := by
  rw [clockSecond, h]

/-- Settles O25: the outcome of each request and event, and the bytes of the zone state. -/
theorem clockAndZoneAreFollowed : Obligations.ClockAndZoneAreFollowed := by
  refine ⟨fun s v hp => request_answer hp rfl rfl,
    fun s hp hvalid h => event_next hp (clockSecond_eq (TariffStore.advance_second hvalid h)),
    fun s hp hvalid h => event_next hp (clockSecond_eq (TariffStore.advance_overflow hvalid h)),
    fun s hp hvalid => event_next hp (clockSecond_eq (TariffStore.advance_unset hvalid)),
    fun s code hp => request_answer hp rfl (zoneReport_good code s), fun s code hp => ?uncertain,
    fun s hp h => event_next hp (zoneWatchExpiry_running h), fun s hp h => event_next hp (zoneWatchExpiry_out h),
    zoneResults_eq, fun s code quality hp h => request_refused hp rfl (zoneReport_quality h code s)⟩
  case uncertain =>
    dsimp only
    have h := zoneReport_uncertain code s (Zone.loses_iff s.store.zone)
    rw [Zone.doubt_eq _ (Zone.loses_iff s.store.zone)] at h
    exact request_answer hp rfl h

end Sys2Proof.Machine
end


section
/-! The hire requests (R62, R65 to R72): the checks in their order, and what an accepted request leaves. -/

namespace Sys2Proof.Machine

/-! ## START_HIRE (R65 to R67) -/

theorem startPin_eq {pin : Byte} {pinned : Option TariffNo}
    (h : pin = 0 ∧ pinned = none ∨ ∃ n : Fin 8, pin.toNat = n.val + 1 ∧ pinned = some n) : startPin pin = some pinned := by
  obtain ⟨rfl, rfl⟩ | ⟨n, hn, rfl⟩ := h
  · rfl
  · have hpin : pin ≠ 0 := by
      rintro rfl
      exact absurd hn (Nat.succ_ne_zero _).symm
    rw [startPin, if_neg hpin, numberOf_eq hn, Option.map_some]

theorem startPin_none {pin : Byte} (h : 8 < pin.toNat) : startPin pin = none := by
  have hpin : pin ≠ 0 := by
    rintro rfl
    exact absurd h (by decide)
  rw [startPin, if_neg hpin, numberOf_none (.inr h), Option.map_none]

theorem startPin_some {pin : Byte} (h : ¬8 < pin.toNat) : ∃ pinned, startPin pin = some pinned := by
  by_cases hpin : pin = 0
  · exact ⟨none, startPin_eq (.inl ⟨hpin, rfl⟩)⟩
  · have hpos : pin.toNat ≠ 0 := fun h0 => hpin (BitVec.eq_of_toNat_eq h0)
    exact ⟨_, startPin_eq (.inr ⟨⟨pin.toNat - 1, by omega⟩, (Nat.sub_add_cancel (Nat.pos_of_ne_zero hpos)).symm, rfl⟩)⟩

theorem State.lowestVacant_eq {s : State} {i : Fin 4} (hvacant : s.party i = none) (hlow : ∀ j < i, s.party j ≠ none) :
    s.lowestVacant = some i := by
  have taken : ∀ j < i, ¬(s.party j).isNone := fun j hj h => hlow j hj (Option.isNone_iff_eq_none.mp h)
  have free : (s.party i).isNone = true := Option.isNone_iff_eq_none.mpr hvacant
  unfold State.lowestVacant
  match i with
  | 0 => rw [if_pos free]
  | 1 => rw [if_neg (taken 0 (by decide)), if_pos free]
  | 2 => rw [if_neg (taken 0 (by decide)), if_neg (taken 1 (by decide)), if_pos free]
  | 3 => rw [if_neg (taken 0 (by decide)), if_neg (taken 1 (by decide)), if_neg (taken 2 (by decide)), if_pos free]

theorem startHire_taken {s : State} {pin : Byte} {pinned : Option TariffNo} {i : Fin 4} {hire : Nat}
    (hpin : startPin pin = some pinned) (hshift : s.shift.state = .opened) (hduty : s.table.offDuty = false)
    (hstage : s.store.stage.isActivating = false) (hseat : s.nonVacant < s.table.seatLimit)
    (hroom : s.nonVacant + 2 ≤ s.journal.free) (hnext : s.table.nextHire = some hire) (hslot : s.lowestVacant = some i) :
    startHire pin s = ⟨startHireTaken s i hire pinned, .ok, u8 i.val ++ u32 hire ++
      u8 ((newParty s.store hire pinned).current.val + 1) ++ u32 (newParty s.store hire pinned).fare ++
      u32 (newParty s.store hire pinned).due⟩ := by
  have hopen : s.shift.state ≠ .closing ∧ s.shift.state ≠ .closed := by
    rw [hshift]
    exact ⟨nofun, nofun⟩
  simp only [startHire, hpin, if_neg hopen.1, if_neg hopen.2, hduty, hstage, if_neg (Nat.not_le.mpr hseat),
    if_neg (Nat.not_lt.mpr hroom), hnext, hslot, Bool.false_eq_true, if_false]

/-- R65: the first check that fails gives the reply. -/
theorem startHire_refused {s : State} {pin : Byte} {st : Status}
    (h : (if 8 < pin.toNat then some Status.range
      else if s.shift.state = .closing then some .busy
      else if s.shift.state = .closed then some .state
      else if s.table.offDuty = true then some .state
      else if s.store.stage.isActivating = true then some .busy
      else if s.table.seatLimit ≤ s.nonVacant then some .full
      else if s.journal.free < s.nonVacant + 2 then some .full
      else if s.table.nextHire = none then some .full
      else none) = some st) : startHire pin s = refuse s st := by
  by_cases hpin : 8 < pin.toNat
  · rw [if_pos hpin] at h
    cases h
    rw [startHire, startPin_none hpin]
  · obtain ⟨pinned, hpinned⟩ := startPin_some hpin
    rw [if_neg hpin] at h
    simp only [startHire, hpinned]
    repeat' split at h
    all_goals cases h
    all_goals simp_all only [if_true, if_false, reduceCtorEq]

/-- The record of a new hire under a tariff that the active set holds. -/
theorem newParty_fare {store : TariffStore} {r : Tariff} (hire : Nat) {pin : Option TariffNo}
    (h : store.active.tariffs[store.selectTariff pin] = some r) :
    newParty store hire pin = { newParty store hire pin with prepaid := r.prepaid, fare := r.flagFall } := by
  have hrecord : store.active.record (store.selectTariff pin) = r := by simp only [TariffSet.record, h]
  simp only [newParty, hrecord]

/-- R147: the phase timer over an update that cancels a lamp test. -/
theorem State.cancelTest_phase (s : State) :
    s.cancelTest.sign.phase = if s.deriveSign = s.sign.state then s.sign.phase else 0 := by
  have hd : (State.deriveSign { s with sign := s.sign.dropTest }) = s.deriveSign := rfl
  unfold State.cancelTest State.settleSign State.updateSign
  rw [hd, apply_ite (fun u : State => u.sign.settleLamps.phase)]
  rfl

theorem State.cancelTest_sign_only (s : State) : s.cancelTest = { s with sign := s.cancelTest.sign } := by
  unfold State.cancelTest State.settleSign State.updateSign
  split <;> rfl

theorem Lamp.settle_eq (l : Lamp) (lit : Bool) (width : Nat) : l.settle lit width =
    { l with period := if lit then some (l.period.getD { slot := 0, width := width }) else none } := by
  cases lit <;> rfl

/-- With a RUNNING party no channel follows the phase timer (R146, R148). -/
theorem State.deriveSign_untimed {s : State} {i : Fin 4} {x : Party} (hopen : s.shift.state = .opened)
    (hx : s.party i = some x) (hrunning : x.state = .running) (j : Fin 4) :
    (channelMode s.deriveSign j).timed = false := by
  rw [State.deriveSign_of_running hopen fun h => s.runningCount_eq_zero_iff.mp h i x hx hrunning]
  split <;> match j with
  | 0 | 1 | 2 | 3 => rfl

/-- R154: the sign after the update that cancels a lamp test under a RUNNING party. -/
theorem State.cancelTest_started {s u : State} (hu : s.cancelTest = u) {i : Fin 4} {x : Party}
    (hopen : s.shift.state = .opened) (hx : s.party i = some x) (hrunning : x.state = .running) :
    u = { s with sign := u.sign } ∧
    u.sign = { s.sign with state := s.deriveSign, phase := u.sign.phase, lamps := u.sign.lamps, test := none } ∧
    u.sign.phase = (if s.deriveSign = s.sign.state then s.sign.phase else 0) ∧
    ∀ j : Fin 4, u.sign.lamps[j] = { s.sign.lamps[j] with
      override := .normal
      period := if u.sign.channelLit j u.sign.lamps[j] then some ((s.sign.lamps[j]).period.getD
        { slot := 0, width := (s.sign.level * 256 + 50) / 100 }) else none } := by
  subst hu
  refine ⟨s.cancelTest_sign_only, s.cancelTest_rest, s.cancelTest_phase, fun j => ?_⟩
  refine (s.cancelTest_lamp j (.inr (State.deriveSign_untimed hopen hx hrunning j))).trans ?_
  rw [Lamp.settle_eq]
  rfl

/-! ## The requests that name a slot (R62, R68 to R72) -/

theorem State.screen_vacant {s : State} {i : Fin 4} (h : s.party i = none) : s.screen i = .error .unknown := by
  simp only [State.screen, h]

theorem State.screen_closing {s : State} {i : Fin 4} {x : Party} (h : s.party i = some x) (hx : x.state = .closing) :
    s.screen i = .error .busy := by
  simp only [State.screen, h, hx]

theorem State.screen_paying {s : State} {i : Fin 4} {x : Party} (h : s.party i = some x) (hx : x.state = .paying) :
    s.screen i = .error .locked := by
  simp only [State.screen, h, hx]

theorem State.screen_party {s : State} {i : Fin 4} {x : Party} (h : s.party i = some x)
    (hx : x.state = .running ∨ x.state = .stopped) : s.screen i = .ok x := by
  obtain hx | hx := hx <;> simp only [State.screen, h, hx]

/-- R62: the screening's refusals of a slot that a request names. -/
theorem State.screen_refused {s : State} {i : Fin 4} {st : Status} (h : s.party i = none ∧ st = .unknown ∨
    ∃ x, s.party i = some x ∧ (x.state = .closing ∧ st = .busy ∨ x.state = .paying ∧ st = .locked)) :
    s.screen i = .error st := by
  obtain ⟨h, rfl⟩ | ⟨x, h, ⟨hx, rfl⟩ | ⟨hx, rfl⟩⟩ := h
  · exact State.screen_vacant h
  · exact State.screen_closing h hx
  · exact State.screen_paying h hx

section Slot

variable {s : State} {slot tariff : Byte} {i : Fin 4} {x : Party}

theorem stopHire_slot (h : 3 < slot.toNat) : stopHire slot s = refuse s .range := by
  rw [stopHire, slotOf_none h]

theorem resumeHire_slot (h : 3 < slot.toNat) : resumeHire slot s = refuse s .range := by
  rw [resumeHire, slotOf_none h]

theorem pinTariff_slot (h : 3 < slot.toNat) : pinTariff slot tariff s = refuse s .range := by
  rw [pinTariff, slotOf_none h]

theorem pinTariff_range (h : 8 < tariff.toNat) : pinTariff slot tariff s = refuse s .range := by
  rw [pinTariff, startPin_none h]
  cases slotOf slot <;> rfl

theorem stopHire_screened {st : Status} (hslot : slot.toNat = i.val) (h : s.screen i = .error st) :
    stopHire slot s = refuse s st := by
  simp only [stopHire, slotOf_eq hslot, h]

theorem resumeHire_screened {st : Status} (hslot : slot.toNat = i.val) (h : s.screen i = .error st) :
    resumeHire slot s = refuse s st := by
  simp only [resumeHire, slotOf_eq hslot, h]

theorem pinTariff_screened {st : Status} (hslot : slot.toNat = i.val) (htariff : tariff.toNat ≤ 8)
    (h : s.screen i = .error st) : pinTariff slot tariff s = refuse s st := by
  obtain ⟨pinned, hpinned⟩ := startPin_some (Nat.not_lt.mpr htariff)
  simp only [pinTariff, slotOf_eq hslot, hpinned, h]

theorem stopHire_stopped (hslot : slot.toNat = i.val) (hx : s.party i = some x) (hstate : x.state = .stopped) :
    stopHire slot s = refuse s .state := by
  simp only [stopHire, slotOf_eq hslot, State.screen_party hx (.inr hstate)]
  exact if_pos hstate

theorem resumeHire_running (hslot : slot.toNat = i.val) (hx : s.party i = some x) (hstate : x.state = .running) :
    resumeHire slot s = refuse s .state := by
  simp only [resumeHire, slotOf_eq hslot, State.screen_party hx (.inl hstate)]
  exact if_pos hstate

theorem stopHire_moving (hslot : slot.toNat = i.val) (hx : s.party i = some x) (hstate : x.state = .running)
    (h : s.meas.moving = true) : stopHire slot s = refuse s .moving := by
  simp only [stopHire, slotOf_eq hslot, State.screen_party hx (.inl hstate)]
  rw [if_neg (by rw [hstate]; nofun), if_pos h]

theorem stopHire_taken (hslot : slot.toNat = i.val) (hx : s.party i = some x) (hstate : x.state = .running)
    (h : s.meas.moving = false) : stopHire slot s =
      ⟨((s.setParty i (some (x.stop s.store.now))).raise .partyStopped).updateSign, .ok,
        u32 x.fare ++ u32 (extrasTotal x.extras) ++ u32 x.tip ++ u32 x.due⟩ := by
  simp only [stopHire, slotOf_eq hslot, State.screen_party hx (.inl hstate)]
  rw [if_neg (by rw [hstate]; nofun), if_neg (by rw [h]; nofun)]

theorem resumeHire_tenders (hslot : slot.toNat = i.val) (hx : s.party i = some x) (hstate : x.state = .stopped)
    (h : x.tenders ≠ []) : resumeHire slot s = refuse s .state := by
  simp only [resumeHire, slotOf_eq hslot, State.screen_party hx (.inr hstate)]
  rw [if_neg (by rw [hstate]; nofun), if_pos h]

theorem resumeHire_taken (hslot : slot.toNat = i.val) (hx : s.party i = some x) (hstate : x.state = .stopped)
    (h : x.tenders = []) : resumeHire slot s =
      ⟨(s.setParty i (some { x with state := .running, joining := true })).updateSign, .ok, []⟩ := by
  simp only [resumeHire, slotOf_eq hslot, State.screen_party hx (.inr hstate)]
  rw [if_neg (by rw [hstate]; nofun), if_neg (not_not_intro h)]

theorem pinTariff_taken {pinned : Option TariffNo} (hslot : slot.toNat = i.val) (hpin : startPin tariff = some pinned)
    (hx : s.party i = some x) (hstate : x.state = .running ∨ x.state = .stopped) : pinTariff slot tariff s =
      ⟨s.setParty i (some (Party.reselect { x with pin := pinned } s.store)), .ok,
        yesNo pinned.isSome ++ u8 (numberCode pinned) ++
          u8 ((Party.reselect { x with pin := pinned } s.store).current.val + 1) ++
          yesNo (decide ((Party.reselect { x with pin := pinned } s.store).current ≠ x.current))⟩ := by
  simp only [pinTariff, slotOf_eq hslot, hpin, State.screen_party hx hstate]

end Slot

/-- Settles O26: the record of R66 in the lowest vacant slot; the sign derived afresh by an update, or by the one that
cancels a lamp test. -/
theorem hireStartsInTheLowestVacantSlot : Obligations.HireStartsInTheLowestVacantSlot := by
  intro s pin pinned i h r hp hpin hshift hduty hstage hseat hroom hnext hvacant hlow hr t x started
  have hx : newParty s.store h pinned = x := newParty_fare h hr
  have hparty : started.party i = some x := s.setParty_party_self i (some x)
  have htaken := startHire_taken (startPin_eq hpin) hshift hduty hstage hseat hroom hnext
    (State.lowestVacant_eq hvacant hlow)
  refine ⟨if s.sign.test.isSome then started.cancelTest else started.updateSign, ?_, fun htest => ?_, fun htest => ?_⟩
  · refine request_answer hp rfl ?_
    rw [htaken, startHireTaken, hx]
    rfl
  · rw [htest]
    rfl
  · rw [if_pos (Option.isSome_iff_ne_none.mpr htest)]
    exact State.cancelTest_started rfl hshift hparty rfl

/-- Settles O27: START_HIRE's checks as one chain, and each refusal of a request that names a slot. -/
theorem hireRequestsAreCheckedInOrder : Obligations.HireRequestsAreCheckedInOrder := by
  refine ⟨fun s pin st hp h => request_refused hp rfl (startHire_refused h), fun s slot tariff st hp htariff h => ?screening,
    fun s slot tariff hp h => request_refused hp rfl (pinTariff_range h), fun s slot i x hp hslot hx => ⟨fun hstate => ?_,
      fun hstate => ?_⟩⟩
  case screening =>
    obtain ⟨h, rfl⟩ | ⟨i, hslot, h⟩ := h
    · exact ⟨request_refused hp rfl (stopHire_slot h), request_refused hp rfl (resumeHire_slot h),
        request_refused hp rfl (pinTariff_slot h)⟩
    · have hscreen := State.screen_refused h
      exact ⟨request_refused hp rfl (stopHire_screened hslot hscreen),
        request_refused hp rfl (resumeHire_screened hslot hscreen),
        request_refused hp rfl (pinTariff_screened hslot htariff hscreen)⟩
  · exact request_refused hp rfl (stopHire_stopped hslot hx hstate)
  · exact request_refused hp rfl (resumeHire_running hslot hx hstate)

end Sys2Proof.Machine
end


section
/-! The requests on a party (R68 to R72). -/

namespace Sys2Proof.Machine

/-! ## ADD_EXTRA (R70, R71) -/

section AddExtra

variable {s : State} {p : Port} {slot kind : Byte} {amount : Nat} {i : Fin 4} {n : Fin 8} {k : ExtraKind} {x : Party}

theorem ExtraKind.amountOk_iff (k : ExtraKind) (amount : Nat) : k.amountOk amount = true ↔
    k.amount = 0 ∧ 1 ≤ amount ∧ amount ≤ 99999 ∨ k.amount ≠ 0 ∧ amount = 0 := by
  unfold ExtraKind.amountOk
  split <;> simp_all

theorem addExtra_range (h : 3 < slot.toNat ∨ kind.toNat < 1 ∨ 8 < kind.toNat) :
    addExtra p slot kind amount s = refuse s .range := by
  obtain h | h := h
  · rw [addExtra, slotOf_none h]
  · rw [addExtra, numberOf_none h]
    cases slotOf slot <;> rfl

theorem addExtra_absent (hslot : slot.toNat = i.val) (hkind : kind.toNat = n.val + 1)
    (h : s.store.active.extraKinds[n] = none) : addExtra p slot kind amount s = refuse s .range := by
  simp only [addExtra, slotOf_eq hslot, numberOf_eq hkind, h]

theorem addExtra_role (hslot : slot.toNat = i.val) (hkind : kind.toNat = n.val + 1)
    (hk : s.store.active.extraKinds[n] = some k) (hrole : k.permitted.has p = false) :
    addExtra p slot kind amount s = refuse s .role := by
  simp only [addExtra, slotOf_eq hslot, numberOf_eq hkind, hk, if_pos hrole]

theorem addExtra_amount (hslot : slot.toNat = i.val) (hkind : kind.toNat = n.val + 1)
    (hk : s.store.active.extraKinds[n] = some k) (hrole : k.permitted.has p = true)
    (hfits : ¬(k.amount = 0 ∧ 1 ≤ amount ∧ amount ≤ 99999 ∨ k.amount ≠ 0 ∧ amount = 0)) :
    addExtra p slot kind amount s = refuse s .range := by
  have hamount : k.amountOk amount = false := Bool.eq_false_iff.mpr (mt (k.amountOk_iff amount).mp hfits)
  simp only [addExtra, slotOf_eq hslot, numberOf_eq hkind, hk, hrole, hamount]
  rfl

theorem addExtra_fits (hslot : slot.toNat = i.val) (hkind : kind.toNat = n.val + 1)
    (hk : s.store.active.extraKinds[n] = some k) (hrole : k.permitted.has p = true)
    (hfits : k.amount = 0 ∧ 1 ≤ amount ∧ amount ≤ 99999 ∨ k.amount ≠ 0 ∧ amount = 0) :
    addExtra p slot kind amount s = addExtraScreened i (k.item n amount) s := by
  simp only [addExtra, slotOf_eq hslot, numberOf_eq hkind, hk, hrole, (k.amountOk_iff amount).mpr hfits]
  rfl

variable {e : Extra}

theorem addExtraScreened_refused {st : Status} (h : s.screen i = .error st) : addExtraScreened i e s = refuse s st := by
  simp only [addExtraScreened, h]

theorem addExtraScreened_tenders (hx : s.party i = some x) (hstate : x.state = .stopped) (h : x.tenders ≠ []) :
    addExtraScreened i e s = refuse s .state := by
  simp only [addExtraScreened, State.screen_party hx (.inr hstate)]
  exact if_pos ⟨hstate, h⟩

theorem Party.takesExtras {x : Party} (h : x.state = .running ∨ x.state = .stopped ∧ x.tenders = []) :
    (x.state = .running ∨ x.state = .stopped) ∧ ¬(x.state = .stopped ∧ x.tenders ≠ []) := by
  obtain h | ⟨h, ht⟩ := h
  · exact ⟨.inl h, by rw [h]; nofun⟩
  · exact ⟨.inr h, fun hne => hne.2 ht⟩

theorem addExtraScreened_full (hx : s.party i = some x)
    (hstate : x.state = .running ∨ x.state = .stopped ∧ x.tenders = []) (h : 8 ≤ x.extras.length) :
    addExtraScreened i e s = refuse s .full := by
  obtain ⟨hscreen, htenders⟩ := Party.takesExtras hstate
  simp only [addExtraScreened, State.screen_party hx hscreen]
  rw [if_neg htenders]
  exact if_pos h

theorem addExtraScreened_taken (hx : s.party i = some x)
    (hstate : x.state = .running ∨ x.state = .stopped ∧ x.tenders = []) (h : x.extras.length < 8) :
    addExtraScreened i e s = ⟨s.setParty i (some (x.addExtra e)), .ok,
      u8 (x.addExtra e).extras.length ++ u32 (extrasTotal (x.addExtra e).extras) ++ u32 (x.addExtra e).due⟩ := by
  obtain ⟨hscreen, htenders⟩ := Party.takesExtras hstate
  simp only [addExtraScreened, State.screen_party hx hscreen]
  rw [if_neg htenders]
  exact if_neg (Nat.not_le.mpr h)

end AddExtra

/-- ADD_EXTRA is the console's and the fleet's. -/
theorem addExtra_ports {p : Port} (h : p ≠ .partition) : Kind.addExtra.ports.has p = true := by
  cases p with
  | partition => exact absurd rfl h
  | console | fleet => rfl

theorem word_zero_iff (amount : BitVec 32) : amount = 0 ↔ amount.toNat = 0 :=
  ⟨fun h => h ▸ rfl, fun h => BitVec.eq_of_toNat_eq h⟩

theorem Measurement.moving_iff (m : Measurement) :
    m.moving = true ↔ m.cal.interlock ≠ 0 ∧ m.cal.interlock < m.last.smoothed := by
  simp [Measurement.moving]

/-- R72: the party of a re-selection under a new pin. -/
theorem Party.reselect_pinned (x : Party) (store : TariffStore) (pinned : Option TariffNo) :
    Party.reselect { x with pin := pinned } store =
      if store.selectTariff pinned = x.current then { x with pin := pinned }
      else { x with
        pin := pinned, current := store.selectTariff pinned, progress := 0, switches := min 65535 (x.switches + 1) } := rfl

theorem Party.reselect_pinned_current (x : Party) (store : TariffStore) (pinned : Option TariffNo) :
    (Party.reselect { x with pin := pinned } store).current = store.selectTariff pinned := by
  rw [Party.reselect_pinned]
  split
  · next h => exact h.symm
  · rfl

/-- Settles O28: each request's outcomes, in the order of their checks. -/
theorem partyRequestsAreTaken : Obligations.PartyRequestsAreTaken := by
  refine ⟨fun s slot i x hp hslot hx => ⟨fun hstate => ?stop, fun hstate => ?resume⟩,
    fun s p slot kind amount i n x k hp hport hslot hkind hk hrole hfits hx hstate hlength => ?extra,
    fun s slot tariff pinned i x hp hpin hslot hx hstate => ?pin, fun s p slot kind amount hp hport =>
      ⟨fun h => ?range, fun i n hslot hkind => ⟨fun h => ?absent, fun k hk => ⟨fun hrole => ?role,
        fun hrole hfits => ?amount, fun hrole hfits => ?screened⟩⟩⟩⟩
  case stop =>
    split
    · next h => exact request_refused hp rfl (stopHire_moving hslot hx hstate ((Measurement.moving_iff _).mpr h))
    · next h =>
      have hstill : s.meas.moving = false := Bool.eq_false_iff.mpr (mt (Measurement.moving_iff _).mp h)
      exact request_answer hp rfl (stopHire_taken hslot hx hstate hstill)
  case resume =>
    split
    · next h => exact request_refused hp rfl (resumeHire_tenders hslot hx hstate h)
    · next h => exact request_answer hp rfl (resumeHire_taken hslot hx hstate (Classical.not_not.mp h))
  case extra =>
    rw [word_zero_iff] at hfits
    refine request_answer hp (addExtra_ports hport)
      ((addExtra_fits hslot hkind hk hrole hfits).trans ((addExtraScreened_taken hx hstate hlength).trans ?_))
    simp only [Party.addExtra, ExtraKind.item, List.length_append, List.length_singleton]
  case pin =>
    refine request_answer hp rfl ((pinTariff_taken hslot (startPin_eq hpin) hx hstate).trans ?_)
    rw [Party.reselect_pinned_current, Party.reselect_pinned]
    simp only [yesNo, decide_eq_true_eq, ite_not, ne_eq]
  case range => exact request_refused hp (addExtra_ports hport) (addExtra_range h)
  case absent => exact request_refused hp (addExtra_ports hport) (addExtra_absent hslot hkind h)
  case role => exact request_refused hp (addExtra_ports hport) (addExtra_role hslot hkind hk hrole)
  case amount =>
    rw [word_zero_iff] at hfits
    exact request_refused hp (addExtra_ports hport) (addExtra_amount hslot hkind hk hrole hfits)
  case screened =>
    rw [word_zero_iff] at hfits
    have hscreen := addExtra_fits (amount := amount.toNat) hslot hkind hk hrole hfits
    have refused : ∀ st, addExtraScreened i (k.item n amount.toNat) s = refuse s st →
        exec (.addExtra p slot kind amount) s = .next (s.putReply p 19 st []) := fun st h =>
      request_refused hp (addExtra_ports hport) (hscreen.trans h)
    exact ⟨fun h => refused _ (addExtraScreened_refused (State.screen_vacant h)), fun x hx =>
      ⟨fun h => refused _ (addExtraScreened_refused (State.screen_closing hx h)),
        fun h => refused _ (addExtraScreened_refused (State.screen_paying hx h)),
        fun h htenders => refused _ (addExtraScreened_tenders hx h htenders),
        fun h hlength => refused _ (addExtraScreened_full hx h hlength)⟩⟩

end Sys2Proof.Machine
end


section
/-! Card sessions, tips and PIN entry (R88 to R94). -/

namespace Sys2Proof.Machine

/-! ## PAY_OPEN (R88 to R90) -/

section PayOpen

variable {s : State} {slot : Byte} {i : Fin 4} {x : Party}

theorem payOpen_slot (h : 3 < slot.toNat) : payOpen slot s = refuse s .range := by
  rw [payOpen, slotOf_none h]

theorem payOpen_session (hslot : slot.toNat = i.val) (h : s.pay.session ≠ none) : payOpen slot s = refuse s .busy := by
  simp only [payOpen, slotOf_eq hslot]
  exact if_pos (Option.isSome_iff_ne_none.mpr h)

theorem payOpen_vacant (hslot : slot.toNat = i.val) (hnone : s.pay.session = none) (h : s.party i = none) :
    payOpen slot s = refuse s .unknown := by
  simp only [payOpen, slotOf_eq hslot, hnone, h]
  rfl

theorem payOpen_closing (hslot : slot.toNat = i.val) (hnone : s.pay.session = none) (hx : s.party i = some x)
    (h : x.state = .closing) : payOpen slot s = refuse s .busy := by
  simp only [payOpen, slotOf_eq hslot, hnone, hx, h]
  rfl

theorem payOpen_running (hslot : slot.toNat = i.val) (hnone : s.pay.session = none) (hx : s.party i = some x)
    (h : x.state = .running) : payOpen slot s = refuse s .state := by
  simp only [payOpen, slotOf_eq hslot, hnone, hx, h]
  rfl

theorem payOpen_settled (hslot : slot.toNat = i.val) (hnone : s.pay.session = none) (hx : s.party i = some x)
    (h : x.state = .stopped) (hrest : x.remaining = 0) : payOpen slot s = refuse s .state := by
  simp only [payOpen, slotOf_eq hslot, hnone, hx, h, if_pos hrest]
  rfl

theorem payOpen_taken (hslot : slot.toNat = i.val) (hnone : s.pay.session = none) (hx : s.party i = some x)
    (h : x.state = .stopped) (hrest : 1 ≤ x.remaining) : payOpen slot s = ⟨payOpenTaken s i x, .ok, ticketBytes s i x⟩ := by
  simp only [payOpen, slotOf_eq hslot, hnone, hx, h, if_neg (Nat.pos_iff_ne_zero.mp hrest)]
  rfl

end PayOpen

/-- R90: the offline tenders held in the four slots. -/
theorem State.allowance_eq (s : State) : s.allowance = s.shift.offlineCap - (s.shift.counters.cardOffline +
    (slotOffline (s.party 0) + slotOffline (s.party 1) + slotOffline (s.party 2) + slotOffline (s.party 3))) := by
  have hslots : (s.slotList.map slotOffline).sum =
      slotOffline (s.party 0) + slotOffline (s.party 1) + slotOffline (s.party 2) + slotOffline (s.party 3) := by
    rw [s.slotList_eq_map_party]
    show slotOffline (s.party 0) + (slotOffline (s.party 1) + (slotOffline (s.party 2) + (slotOffline (s.party 3) + 0))) = _
    omega
  rw [State.allowance, State.offlineApplied, hslots]

theorem slotOffline_eq (o : Option Party) : slotOffline o = (o.map (fun x => (x.tenders.map (fun d => match d with
    | .cardOffline a _ _ _ _ => a
    | _ => 0)).sum)).getD 0 := by
  cases o with
  | none => rfl
  | some x => exact congrArg List.sum (List.map_congr_left fun d _ => by cases d <;> rfl)

/-! ## PAY_TIP (R91) -/

theorem Session.named_iff {y : Session} {payment hire : Nat} :
    y.named payment hire = true ↔ y.payment = payment ∧ (hire = 0 ∨ y.hire = hire) := by
  simp [Session.named]

/-- R91: the tip under its cap, raised to its floor. -/
theorem Party.limitTip_eq (x : Party) (tipCap tip : Nat) :
    let capped := min tip (x.fare * tipCap / 1000)
    let floor := tendersTotal x.tenders + 1 - x.fare - extrasTotal x.extras
    x.limitTip tipCap tip = if capped < floor then floor else capped := by
  dsimp only
  unfold Party.limitTip
  split
  · next h => exact Nat.max_eq_right (Nat.le_of_lt h)
  · next h => exact Nat.max_eq_left (Nat.not_lt.mp h)

section PayTip

variable {s : State} {payment hire tip : Nat} {y : Session} {x : Party}

theorem payTip_taken (hpayment : payment ≠ 0) (htip : tip ≤ 999999) (hy : s.pay.session = some y)
    (hnamed : y.named payment hire = true) (hx : s.party y.slot = some x) :
    payTip payment hire tip s = payTipTaken y x tip s := by
  rw [payTip, if_neg (by omega)]
  simp only [hy, hnamed, hx]
  rfl

/-- The state that a tip leaves: the party's tip, and the session's amount requested. -/
theorem payTipTaken_asked {v : Nat} (hv : x.limitTip s.shift.tipCap tip = v) (h : v = tip) : payTipTaken y x tip s =
    ⟨{ s.setParty y.slot (some { x with tip := v }) with
        pay := { s.pay with session := some { y with requested := ({ x with tip := v } : Party).remaining } } }, .ok,
      u8 0 ++ u32 0 ++ u32 ({ x with tip := v } : Party).due ++ u32 ({ x with tip := v } : Party).remaining⟩ := by
  simp only [payTipTaken, hv, h, if_pos, presence_one]
  simp

theorem payTipTaken_limited {v : Nat} (hv : x.limitTip s.shift.tipCap tip = v) (h : v ≠ tip) : payTipTaken y x tip s =
    ⟨{ s.setParty y.slot (some { x with tip := v }) with
        pay := { s.pay with session := some { y with requested := ({ x with tip := v } : Party).remaining } } }, .clamped,
      u8 1 ++ u32 v ++ u32 ({ x with tip := v } : Party).due ++ u32 ({ x with tip := v } : Party).remaining⟩ := by
  simp only [payTipTaken, hv, if_neg h, presence_one]
  simp [h]

end PayTip

theorem half_ne_zero {payment : BitVec 16} (h : payment ≠ 0) : payment.toNat ≠ 0 :=
  fun h0 => h (BitVec.eq_of_toNat_eq h0)

/-- A request's hire number, 0 where none is given, as its number. -/
theorem hire_given {hire : BitVec 32} {n : Nat} (h : hire = 0 ∨ n = hire.toNat) : hire.toNat = 0 ∨ n = hire.toNat :=
  h.imp_left (word_zero_iff hire).mp

/-- Settles O30: each outcome of PAY_OPEN and PAY_TIP, and the allowance over the four slots. -/
theorem sessionOpensAndTakesTips : Obligations.SessionOpensAndTakesTips := by
  refine ⟨fun s slot i x hp hslot hnone hx hstate hrest => request_answer hp rfl (payOpen_taken hslot hnone hx hstate hrest),
    fun s payment hire tip y x hp hpayment htip hy hnumber hhire hx => ?tip,
    fun s slot hp => ⟨fun h => request_refused hp rfl (payOpen_slot h), fun i hslot =>
      ⟨fun h => request_refused hp rfl (payOpen_session hslot h), fun hnone =>
        ⟨fun h => request_refused hp rfl (payOpen_vacant hslot hnone h), fun x hx =>
          ⟨fun h => request_refused hp rfl (payOpen_closing hslot hnone hx h),
            fun h => request_refused hp rfl (payOpen_running hslot hnone hx h),
            fun h hrest => request_refused hp rfl (payOpen_settled hslot hnone hx h hrest)⟩⟩⟩⟩, fun s => ?allowance⟩
  case tip =>
    have htaken := payTip_taken (s := s) (half_ne_zero hpayment) htip hy (Session.named_iff.mpr ⟨hnumber, hire_given hhire⟩) hx
    have hset := Party.limitTip_eq x s.shift.tipCap tip.toNat
    exact ⟨fun h => request_answer hp rfl (htaken.trans (payTipTaken_asked hset h)),
      fun h => request_answer hp rfl (htaken.trans (payTipTaken_limited hset h))⟩
  case allowance =>
    intro held
    have hheld : ∀ i, held i = slotOffline (s.party i) := fun i => (slotOffline_eq (s.party i)).symm
    rw [hheld, hheld, hheld, hheld]
    exact s.allowance_eq

/-! ## PIN entry (R92 to R94) -/

section Pin

variable {s : State} {y : Session}

theorem pinState_entry (hy : s.pay.session = some y) : pinState 1#8 s = ⟨State.settleGates { s with pay := { s.pay with
    session := some { y with pinEntry := true, timeLeft := s.shift.holdLimit * 1000 }, guardTimer := none } }, .ok, []⟩ := by
  simp only [pinState, hy]
  rfl

theorem pinState_idle (hy : s.pay.session = some y) : pinState 0#8 s = ⟨if y.pinEntry then
    State.settleGates { s with pay := { s.pay with
      session := some { y with pinEntry := false }, guardTimer := some (s.pay.guardTime * 100) } } else s, .ok, []⟩ := by
  simp only [pinState, hy]
  show (if y.pinEntry = true then _ else _) = _
  split <;> rfl

theorem pinState_none {v : Byte} (hv : v.toNat ≤ 1) (h : s.pay.session = none) : pinState v s = refuse s .state := by
  simp only [pinState, flagOf_eq hv, h]

theorem pinGuardExpiry_running (h : s.pay.guardTimer ≠ some 0) : pinGuardExpiry s = s := if_neg h

theorem pinGuardExpiry_out (h : s.pay.guardTimer = some 0) :
    pinGuardExpiry s = State.settleGates { s with pay := { s.pay with guardTimer := none } } := if_pos h

end Pin

/-- Settles O31: PIN_STATE's outcomes and the guard timer's expiry. -/
theorem pinEntryIsGuarded : Obligations.PinEntryIsGuarded :=
  ⟨fun _ _ hp hy => ⟨request_answer hp rfl (pinState_entry hy), request_answer hp rfl (pinState_idle hy)⟩,
    fun _ _ hp h hv => request_refused hp rfl (pinState_none hv h),
    fun _ hp h => event_next hp (pinGuardExpiry_running h), fun _ hp h => event_next hp (pinGuardExpiry_out h)⟩

end Sys2Proof.Machine
end


section
/-! Card results for the open session and its expiry (R95 to R101, R104). -/

namespace Sys2Proof.Machine

/-! ## What the shared operations leave -/

/-- R96: the payment unit after the close of a session. -/
theorem Payment.close_eq (z : Payment) (y : Session) (cause : CloseCause) : z.close y cause = { z with
    session := none
    recent := pushRecent z.recent { payment := y.payment, slot := y.slot, hire := y.hire, cause := cause }
    guardTimer := if y.pinEntry then some (z.guardTime * 100) else z.guardTimer } := by
  unfold Payment.close
  split <;> rfl

/-- R87: the list holds the last four. -/
theorem pushRecent_eq {l : List RecentSession} (x : RecentSession) (h : l.length ≤ 4) :
    pushRecent l x = l.drop (l.length + 1 - 4) ++ [x] := by
  unfold pushRecent
  split
  · next hfull =>
    have hlen : l.length + 1 - 4 = 1 := by
      have : Config.recentPlaces = 4 := rfl
      omega
    rw [hlen, List.drop_one]
  · next hroom =>
    have hlen : l.length + 1 - 4 = 0 := by
      have : Config.recentPlaces = 4 := rfl
      omega
    rw [hlen, List.drop_zero]

theorem Party.canTake_iff {x : Party} {amount : Nat} :
    x.canTake amount = true ↔ x.tenders.length < 3 ∨ x.tenders.length = 3 ∧ x.remaining ≤ amount := by
  simp [Party.canTake]

/-- A tender that cannot take a place (R84, step 2). -/
theorem Party.canTake_false_iff {x : Party} {amount : Nat} :
    x.canTake amount = false ↔ 4 ≤ x.tenders.length ∨ x.tenders.length = 3 ∧ amount < x.remaining := by
  rw [← Bool.not_eq_true, Party.canTake_iff]
  omega

theorem State.orphanRoom_iff {s : State} : s.orphanRoom = true ↔
    s.nonVacant + (if s.shift.state = .opened then 1 else 0) < s.journal.free ∧ s.journal.places.length < 4 := by
  rw [State.orphanRoom, Bool.and_eq_true, decide_eq_true_eq]
  exact and_congr_right fun _ => decide_eq_true_iff

/-- R84: a tender settles the party, whose record is then frozen and queued, or leaves it STOPPED. -/
theorem State.applyTender_eq (s : State) (i : Fin 4) (x : Party) (d : Tender) {settled : Bool}
    (h : settled = true ↔ x.remaining ≤ d.applied) {z : Party} (hz : z = { x with
      state := if settled then .closing else .stopped, payment := none, tenders := x.tenders ++ [d] }) :
    s.applyTender i x d = { s.setParty i (some z) with
      journal := if settled then s.journal.append (.trip (tripEntry s.meas.cal.k i z)) else s.journal } := by
  subst hz
  obtain ⟨hle, heq⟩ | ⟨hlt, heq⟩ := s.applyTender_cases i x d
  · rw [heq, State.enterClosing_eq, h.mpr hle]
    rfl
  · have hnot : settled = false := Bool.eq_false_iff.mpr fun ht => absurd (h.mp ht) (Nat.not_le.mpr hlt)
    rw [heq, hnot]
    rfl

theorem State.raise_congr {s t : State} (h : t.notices = s.notices) (src : NoticeSource) :
    (t.raise src).notices = (s.raise src).notices := by
  simp only [State.raise, h]

/-- What the update, the notice and the tone of a card result leave. -/
theorem State.resulted (u : State) (tone : Tone) {t : State}
    (ht : ((u.updateSign.raise .paymentResult).requestTone .rear tone).settleGates = t) :
    t.table = u.table ∧ t.journal = u.journal ∧ t.pay = u.pay ∧ t.notices = (u.raise .paymentResult).notices ∧
    t.intercom.speakers.rear = u.intercom.speakers.rear.take tone ∧
    t.intercom.speakers.front = u.intercom.speakers.front ∧ t.sign.state = t.deriveSign ∧ t.meas = u.meas ∧
    t.store = u.store ∧ t.shift = u.shift := by
  subst ht
  have hspeakers : ∀ v : State, v.intercom = u.intercom →
      (v.requestTone .rear tone).settleGates.intercom.speakers.rear = u.intercom.speakers.rear.take tone ∧
      (v.requestTone .rear tone).settleGates.intercom.speakers.front = u.intercom.speakers.front := by
    intro v hv
    rw [State.settleGates_speakers, ← hv]
    exact ⟨rfl, rfl⟩
  refine ⟨by simp, by simp, by simp, ?notices, (hspeakers _ (by simp)).1, (hspeakers _ (by simp)).2, ?sign, by simp, by simp,
    by simp⟩
  case notices => exact State.raise_congr u.updateSign_notices _
  case sign => exact (((State.updateSign_derived u).raise _).requestTone _ _).settleGates

/-! ## Which rule takes a result (R95) -/

theorem State.openFor_iff {s : State} {payment hire : Nat} {y : Session} : s.openFor payment hire = some y ↔
    s.pay.session = some y ∧ y.payment = payment ∧ (hire = 0 ∨ y.hire = hire) := by
  unfold State.openFor
  cases s.pay.session with
  | none => simp
  | some x =>
    simp only [← Session.named_iff, Option.some.injEq]
    split
    · next h =>
      rw [Option.some.injEq]
      exact ⟨fun he => ⟨he, he ▸ h⟩, fun he => he.1⟩
    · next h => exact ⟨nofun, fun he => absurd (he.1 ▸ he.2) h⟩

/-- The outcome code of an approval. -/
theorem outcomeOf_approved (offline : Bool) :
    outcomeOf (if offline then 1#8 else 0#8) = some (if offline then .approvedOffline else .approvedOnline) := by
  cases offline <;> rfl

theorem outcomeOf_unpaid (declined : Bool) :
    outcomeOf (if declined then 2#8 else 3#8) = some (if declined then .declined else .aborted) := by
  cases declined <;> rfl

section PayResult

variable {s : State} {payment hire amount reference : Nat} {offline declined : Bool} {y : Session} {x : Party}

theorem payResult_approval (hpayment : payment ≠ 0) :
    payResult payment hire (if offline then 1#8 else 0#8) amount reference s =
      approval payment hire offline amount reference s := by
  rw [payResult, if_neg hpayment, outcomeOf_approved]
  cases offline <;> rfl

theorem payResult_decline (hpayment : payment ≠ 0) :
    payResult payment hire (if declined then 2#8 else 3#8) amount reference s = decline payment hire declined s := by
  rw [payResult, if_neg hpayment, outcomeOf_unpaid]
  cases declined <;> rfl

theorem approval_open (hlow : 1 ≤ amount) (hhigh : amount ≤ moneyMax) (href : reference ≤ 99999999)
    (h : s.openFor payment hire = some y) :
    approval payment hire offline amount reference s = approveOpen y offline amount reference s := by
  rw [approval, if_neg (by omega), h]

theorem approval_late (hlow : 1 ≤ amount) (hhigh : amount ≤ moneyMax) (href : reference ≤ 99999999)
    (h : s.openFor payment hire = none) :
    approval payment hire offline amount reference s = approveLate payment hire offline amount reference s := by
  rw [approval, if_neg (by omega), h]

/-! ## An approval for the open session (R98, R99) -/

theorem approveOpen_applied (hx : s.party y.slot = some x) (h : x.canTake amount = true) :
    approveOpen y offline amount reference s = applyOpen y x offline amount reference s := by
  simp only [approveOpen, hx, if_pos h]

theorem approveOpen_orphan (hx : s.party y.slot = some x) (h : x.canTake amount = false) :
    approveOpen y offline amount reference s = orphanOpen y offline amount reference s := by
  simp only [approveOpen, hx, h]
  rfl

theorem orphanOpen_full (h : ¬s.orphanRoom = true) : orphanOpen y offline amount reference s = refuse s .full := if_neg h

theorem approvalStatus_eq (x : Party) (amount : Nat) :
    approvalStatus x amount = if 0 < amount - min amount x.remaining then .clamped else .ok :=
  ite_of_iff (by omega)

theorem approvalResults_eq (x : Party) (beyond : Bool) (amount : Nat) : approvalResults x beyond amount =
    u32 (min amount x.remaining) ++ u32 (amount - min amount x.remaining) ++ u8 (if beyond then 1 else 0) ++
      u32 (x.remaining - min amount x.remaining) ++ u8 (if decide (x.remaining ≤ amount) then 4 else 2) := by
  have hexcess : amount - min amount x.remaining = amount - x.remaining := by omega
  have hrest : x.remaining - min amount x.remaining = x.remaining - amount := by omega
  rw [hexcess, hrest]
  by_cases h : x.remaining ≤ amount <;> simp [approvalResults, yesNo, partyStateCode, h]

/-- The party that an approval leaves (R84, R98). -/
theorem Party.noteExcess_eq (x : Party) (amount : Nat) : x.noteExcess amount =
    { x with excessCharged := x.excessCharged || decide (0 < amount - min amount x.remaining) } := by
  have h : 0 < amount - min amount x.remaining ↔ x.remaining < amount := by omega
  rw [Party.noteExcess, decide_eq_decide.mpr h]

theorem State.approvalTender_settles (s : State) (x : Party) (payment : Nat) (offline : Bool) (amount reference : Nat) :
    decide (x.remaining ≤ amount) = true ↔ x.remaining ≤ (s.approvalTender x payment offline amount reference).applied := by
  rw [State.approvalTender_applied, decide_eq_true_iff]
  omega

end PayResult

/-- Settles O32: the list of recent sessions, the applied approval and the orphan approval. -/
theorem approvalIsApplied : Obligations.ApprovalIsApplied := by
  refine ⟨fun l x h => pushRecent_eq x h, ?applied, ?orphan⟩
  case applied =>
    intro s payment hire amount reference offline y x hp hpayment hlow hhigh href hy hnumber hhire hx hplace a
      excess beyond tender settled z
    have hopen := State.openFor_iff.mpr ⟨hy, hnumber, hire_given hhire⟩
    have hanswer := (payResult_approval (half_ne_zero hpayment)).trans ((approval_open (offline := offline) hlow hhigh href
      hopen).trans (approveOpen_applied hx (Party.canTake_iff.mpr hplace)))
    have htender : s.approvalTender x y.payment offline amount.toNat reference.toNat = tender := by
      rw [hnumber]
      rfl
    let paid : State := { s with pay := s.pay.close y .result }
    have hpaid := paid.applyTender_eq y.slot (x.noteExcess amount.toNat) tender (settled := settled)
      (htender ▸ s.approvalTender_settles x y.payment offline amount.toNat reference.toNat) (z := z)
      (by rw [Party.noteExcess_eq])
    obtain ⟨htable, hjournal, hpay, hnotices, hrear, hfront, hsign, hmeas, hstore, hshift⟩ :=
      State.resulted (paid.applyTender y.slot (x.noteExcess amount.toNat) tender) .approved rfl
    refine ⟨_, ?_, htable.trans ?_, hjournal.trans ?_, hpay.trans ?_, hnotices.trans ?_, hrear.trans ?_, hfront.trans ?_,
      hsign, hmeas.trans ?_, hstore.trans ?_, hshift.trans ?_⟩
    · refine request_answer hp rfl (hanswer.trans ?_)
      rw [applyOpen, htender, approvalStatus_eq, approvalResults_eq]
      rfl
    all_goals rw [hpaid]
    case refine_4 => exact Payment.close_eq _ _ _
    all_goals rfl
  case orphan =>
    intro s payment hire amount reference offline y x hp hpayment hlow hhigh href hy hnumber hhire hx hplace c room
    have hopen := State.openFor_iff.mpr ⟨hy, hnumber, hire_given hhire⟩
    have hanswer := (payResult_approval (half_ne_zero hpayment)).trans ((approval_open (offline := offline) hlow hhigh href
      hopen).trans (approveOpen_orphan hx (Party.canTake_false_iff.mpr hplace)))
    refine ⟨fun hroom => ?_, fun hroom =>
      request_refused hp rfl (hanswer.trans (orphanOpen_full (mt State.orphanRoom_iff.mp hroom)))⟩
    let o := s.orphanOf y.payment (some y.hire) offline amount.toNat reference.toNat
    let closed : State := { s.queueOrphan o with pay := (s.queueOrphan o).pay.close y .result }
    have hreleased : closed.releaseParty y.slot = closed.setParty y.slot (some { x with state := .stopped, payment := none }) :=
      State.releaseParty_some hx
    obtain ⟨htable, hjournal, hpay, hnotices, hrear, hfront, hsign, hmeas, hstore, hshift⟩ :=
      State.resulted (closed.releaseParty y.slot) .declined rfl
    refine ⟨_, ?_, hjournal.trans ?_, htable.trans ?_, hpay.trans ?_, hnotices.trans ?_, hshift.trans ?_, hrear.trans ?_,
      hfront.trans ?_, hsign, hmeas.trans ?_, hstore.trans ?_⟩
    · refine request_answer hp rfl (hanswer.trans ?_)
      exact if_pos (State.orphanRoom_iff.mpr hroom)
    all_goals rw [hreleased]
    case refine_2 => exact RecordStore.append_place hroom.2 _
    case refine_4 => exact Payment.close_eq _ _ _
    all_goals rfl

end Sys2Proof.Machine
end


section
/-! Sessions that end unpaid, and late approvals (R97, R100 to R104). -/

namespace Sys2Proof.Machine

/-! ## A session closed without an approval (R100, R101) -/

theorem Shift.gain_open {u : Shift} (h : u.state = .opened) (f : Counters → Counters) :
    u.gain f = { u with counters := f u.counters } := if_pos h

theorem Shift.gain_closed {u : Shift} (h : u.state ≠ .opened) (f : Counters → Counters) : u.gain f = u := if_neg h

/-- The party of a session closed without payment (R96). -/
def Party.released (x : Party) : Party := { x with state := .stopped, payment := none }

theorem State.releaseParty_eq {s : State} {i : Fin 4} {x : Party} (h : s.party i = some x) :
    s.releaseParty i = s.setParty i (some x.released) := State.releaseParty_some h

section Unpaid

variable {s : State} {y : Session} {x : Party}

theorem decline_open {payment hire : Nat} {declined : Bool} (h : s.openFor payment hire = some y) :
    decline payment hire declined s = declineOpen y declined s := by
  rw [decline, h]

theorem decline_late {payment hire : Nat} {declined : Bool} (h : s.openFor payment hire = none) :
    decline payment hire declined s = ⟨s, .ok, []⟩ := by
  rw [decline, h]

theorem sessionExpiry_running (hy : s.pay.session = some y) (h : y.timeLeft ≠ 0) : sessionExpiry s = s := by
  have hnone : s.pay.expired = none := by simp [Payment.expired, hy, h]
  simp only [sessionExpiry, hnone]

/-- The session closed by its deadline, its party not yet returned (R101). -/
def State.sessionExpired (s : State) (y : Session) : State :=
  { s with
    pay := s.pay.close y .expired
    shift := s.shift.gain (fun c => { c with expiries := satAdd max32 c.expiries 1 }) }

theorem sessionExpiry_out (hy : s.pay.session = some y) (h : y.timeLeft = 0) (hx : s.party y.slot = some x) :
    sessionExpiry s = ((((((s.sessionExpired y).setParty y.slot (some x.released)).updateSign).raise
      .paymentExpired).requestTone .front .expired).requestTone .rear .expired).settleGates := by
  have hsome : s.pay.expired = some y := by simp [Payment.expired, hy, h]
  rw [← State.releaseParty_eq (s := s.sessionExpired y) hx]
  simp only [sessionExpiry, hsome]
  rfl

theorem State.requestTone_speakers (s : State) (side : CodecSide) (t : Tone) : (s.requestTone side t).intercom.speakers =
    s.intercom.speakers.set side ((s.intercom.speakers.get side).take t) := rfl

/-- What the update, the notice and the tones of an expiry leave. -/
theorem State.expired_rest (u : State) {t : State}
    (ht : (((u.updateSign.raise .paymentExpired).requestTone .front .expired).requestTone .rear .expired).settleGates = t) :
    t.table = u.table ∧ t.pay = u.pay ∧ t.shift = u.shift ∧ t.notices = (u.raise .paymentExpired).notices ∧
    t.intercom.speakers.front = u.intercom.speakers.front.take .expired ∧
    t.intercom.speakers.rear = u.intercom.speakers.rear.take .expired ∧ t.journal = u.journal := by
  subst ht
  have hspeakers : ∀ v : State, v.intercom = u.intercom →
      ((v.requestTone .front .expired).requestTone .rear .expired).settleGates.intercom.speakers.front =
        u.intercom.speakers.front.take .expired ∧
      ((v.requestTone .front .expired).requestTone .rear .expired).settleGates.intercom.speakers.rear =
        u.intercom.speakers.rear.take .expired := by
    intro v hv
    rw [State.settleGates_speakers, State.requestTone_speakers, State.requestTone_speakers, hv]
    exact ⟨rfl, rfl⟩
  refine ⟨by simp, by simp, by simp, ?notices, (hspeakers _ (by simp)).1, (hspeakers _ (by simp)).2, by simp⟩
  case notices =>
    rw [State.settleGates_notices, State.requestTone_notices, State.requestTone_notices]
    exact State.raise_congr u.updateSign_notices _

/-- The session closed by a DECLINED or ABORTED result, its party not yet returned (R100). -/
def State.sessionDeclined (s : State) (y : Session) (declined : Bool) : State :=
  { s with
    pay := s.pay.close y .result
    shift := s.shift.gain (fun c =>
      if declined then { c with declines := satAdd max32 c.declines 1 } else { c with aborts := satAdd max32 c.aborts 1 }) }

theorem declineOpen_eq {declined : Bool} (hx : s.party y.slot = some x) : declineOpen y declined s =
    ⟨((((s.sessionDeclined y declined).setParty y.slot (some x.released)).updateSign.raise .paymentResult).requestTone .rear
        .declined).settleGates, .ok, u8 2 ++ u32 x.remaining⟩ := by
  have hparty := State.setParty_party_self (s.sessionDeclined y declined) y.slot (some x.released)
  rw [← State.releaseParty_eq (s := s.sessionDeclined y declined) hx] at hparty ⊢
  show (⟨_, _, u8 (slotStateCode (((s.sessionDeclined y declined).releaseParty y.slot).party y.slot)) ++
    u32 (match ((s.sessionDeclined y declined).releaseParty y.slot).party y.slot with
      | some p => p.remaining | none => 0)⟩ : Answer) = _
  rw [hparty]
  rfl

end Unpaid

/-- Settles O33: each end of a session without an approval, from what its update leaves. -/
theorem sessionsEndUnpaid : Obligations.SessionsEndUnpaid := by
  refine ⟨?declined, ?expired, fun s y hp hy h => event_next hp (sessionExpiry_running hy h), ?late⟩
  case declined =>
    intro s payment hire amount reference declined y x hp hpayment hy hnumber hhire hx hshiftOpen
    have hopen := State.openFor_iff.mpr ⟨hy, hnumber, hire_given hhire⟩
    have hanswer := (payResult_decline (declined := declined) (amount := amount.toNat) (reference := reference.toNat)
      (half_ne_zero hpayment)).trans ((decline_open hopen).trans (declineOpen_eq hx))
    have hclose : (s.sessionDeclined y declined).pay = _ := Payment.close_eq s.pay y .result
    have hgain := Shift.gain_open hshiftOpen fun c => if declined then
      { c with declines := satAdd max32 c.declines 1 } else { c with aborts := satAdd max32 c.aborts 1 }
    obtain ⟨htable, hjournal, hpay, hnotices, hrear, -, -, -, -, hshift⟩ :=
      State.resulted ((s.sessionDeclined y declined).setParty y.slot (some x.released)) .declined rfl
    replace hpay := hpay.trans hclose
    replace hshift := hshift.trans hgain
    refine ⟨_, request_answer hp rfl hanswer, htable, ?_, ?_, ?_, fun h => ?_, fun h => ?_, hnotices, hrear, hjournal⟩
    case refine_4 | refine_5 => rw [hshift, h]; rfl
    all_goals rw [hpay]
  case expired =>
    intro s y x hp hy hdeadline hx
    have hclose : (s.sessionExpired y).pay = _ := Payment.close_eq s.pay y .expired
    obtain ⟨htable, hpay, hshift, hnotices, hfront, hrear, hjournal⟩ :=
      State.expired_rest ((s.sessionExpired y).setParty y.slot (some x.released)) rfl
    replace hpay := hpay.trans hclose
    refine ⟨_, event_next hp (sessionExpiry_out hy hdeadline hx), htable, ?_, ?_, ?_, fun h => ?_, hnotices, hfront, hrear,
      hjournal⟩
    case refine_4 =>
      rw [hshift]
      exact congrArg (fun u : Shift => u.counters.expiries) (Shift.gain_open h _)
    all_goals rw [hpay]
  case late =>
    intro s payment hire amount reference outcome hp hpayment hout hnone
    obtain rfl | rfl := hout
    · exact request_answer hp rfl ((payResult_decline (declined := true) (half_ne_zero hpayment)).trans (decline_late hnone))
    · exact request_answer hp rfl ((payResult_decline (declined := false) (half_ne_zero hpayment)).trans (decline_late hnone))

end Sys2Proof.Machine
end


section
/-! Late approvals (R97, R102, R103) and cash (R105, R106). -/

namespace Sys2Proof.Machine

/-! ## Late approvals -/

section Late

variable {s : State} {payment hire amount reference : Nat} {offline : Bool} {it : RecentSession} {x : Party}

theorem approveLate_unknown (h : s.pay.recent.find? (fun it => it.matchesResult payment hire) = none) :
    approveLate payment hire offline amount reference s = orphanLate none payment offline amount reference s := by
  simp only [approveLate, h]

theorem approveLate_orphan (h : s.pay.recent.find? (fun it => it.matchesResult payment hire) = some it)
    (hx : s.lateParty it amount = none) :
    approveLate payment hire offline amount reference s = orphanLate (some it) payment offline amount reference s := by
  simp only [approveLate, h, hx]

theorem approveLate_applied (h : s.pay.recent.find? (fun it => it.matchesResult payment hire) = some it)
    (hx : s.lateParty it amount = some x) :
    approveLate payment hire offline amount reference s = applyLate it x offline amount reference s := by
  simp only [approveLate, h, hx]

theorem orphanLate_full {found : Option RecentSession} (h : ¬s.orphanRoom = true) :
    orphanLate found payment offline amount reference s = refuse s .full := if_neg h

theorem orphanLate_unknown (h : s.orphanRoom = true) : orphanLate none payment offline amount reference s =
    ⟨s.queueOrphan (s.orphanOf payment none offline amount reference), .unknown, []⟩ := if_pos h

theorem orphanLate_found (h : s.orphanRoom = true) : orphanLate (some it) payment offline amount reference s =
    ⟨({ s with pay := { s.pay with recent := markResult s.pay.recent it } } : State).queueOrphan
      (s.orphanOf payment (some it.hire) offline amount reference), .conflict, []⟩ := if_pos h

/-- A late approval that no longer fits its party (R102). -/
theorem State.lateParty_none (h : it.cause = .result ∨ s.party it.slot = none ∨
    ∃ x, s.party it.slot = some x ∧ (x.hire ≠ it.hire ∨ x.state ≠ .stopped ∨ x.remaining = 0 ∨
      4 ≤ x.tenders.length ∨ x.tenders.length = 3 ∧ amount < x.remaining)) : s.lateParty it amount = none := by
  unfold State.lateParty
  cases hx : s.party it.slot with
  | none => rfl
  | some x =>
    refine if_neg fun ⟨hcause, hhire, hstate, hrest, hplace⟩ => ?_
    obtain h | h | ⟨z, hz, h⟩ := h
    · rw [h] at hcause
      cases hcause
    · rw [h] at hx
      cases hx
    · obtain rfl : x = z := Option.some.inj (hx.symm.trans hz)
      rw [← Party.canTake_false_iff, hplace] at h
      obtain h | h | h | h := h
      · exact h hhire
      · exact h hstate
      · omega
      · cases h

theorem State.lateParty_some (hcause : it.cause = .expired) (hx : s.party it.slot = some x) (hhire : x.hire = it.hire)
    (hstate : x.state = .stopped) (hrest : 1 ≤ x.remaining) (hplace : x.canTake amount = true) :
    s.lateParty it amount = some x := by
  simp only [State.lateParty, hx]
  exact if_pos ⟨hcause, hhire, hstate, hrest, hplace⟩

/-- R97: what the queuing of an orphan approval leaves. -/
theorem State.queueOrphan_rest {u : State} (o : OrphanEntry) {t : State} (ht : u.queueOrphan o = t)
    (hplaces : u.journal.places.length < 4) :
    t.journal = { u.journal with places := u.journal.places ++ [.orphan o] } ∧ t.table = u.table ∧ t.pay = u.pay ∧
    t.notices = (u.raise .orphanApproval).notices ∧
    (u.shift.state = .opened → t.shift.counters =
      { u.shift.counters with orphans := min max32 (u.shift.counters.orphans + 1) }) ∧
    (u.shift.state ≠ .opened → t.shift = u.shift) := by
  subst ht
  exact ⟨RecordStore.append_place hplaces _, rfl, rfl, rfl, fun h => congrArg Shift.counters (Shift.gain_open h _),
    fun h => Shift.gain_closed h (fun c => { c with orphans := satAdd max32 c.orphans 1 })⟩

end Late

/-- Settles O34: which session a result is for, and the three ends of a late approval. -/
theorem lateApprovalIsKept : Obligations.LateApprovalIsKept := by
  refine ⟨fun s payment hire y => State.openFor_iff, fun l it => rfl, ?_⟩
  intro s payment hire amount reference offline hp hpayment hlow hhigh href hnone c found room entry
  have hanswer := (payResult_approval (half_ne_zero hpayment)).trans
    (approval_late (offline := offline) hlow hhigh href hnone)
  have hroom : room ↔ s.orphanRoom = true := State.orphanRoom_iff.symm
  refine ⟨fun hfound hr => ?unknown, fun hfound hr => ?unknownFull,
    fun it hfound hlate => ⟨fun hr => ?orphan, fun hr => ?orphanFull⟩,
    fun it x hfound hcause hx hhire hstate hrest hplace => ?applied⟩
  case unknown =>
    exact ⟨_, request_answer hp rfl (hanswer.trans ((approveLate_unknown hfound).trans (orphanLate_unknown (hroom.mp hr)))),
      State.queueOrphan_rest _ rfl hr.2⟩
  case unknownFull =>
    exact request_refused hp rfl (hanswer.trans ((approveLate_unknown hfound).trans (orphanLate_full (mt hroom.mpr hr))))
  case orphan =>
    exact ⟨_, request_answer hp rfl (hanswer.trans ((approveLate_orphan hfound (State.lateParty_none hlate)).trans
      (orphanLate_found (hroom.mp hr)))),
      State.queueOrphan_rest (u := { s with pay := { s.pay with recent := markResult s.pay.recent it } }) _ rfl hr.2⟩
  case orphanFull =>
    exact request_refused hp rfl (hanswer.trans ((approveLate_orphan hfound (State.lateParty_none hlate)).trans
      (orphanLate_full (mt hroom.mpr hr))))
  case applied =>
    intro a beyond tender settled z
    have hlate := State.lateParty_some hcause hx hhire hstate hrest (Party.canTake_iff.mpr hplace)
    let marked : State := { s with pay := { s.pay with recent := markResult s.pay.recent it } }
    have hexcess : a < amount.toNat ↔ 0 < amount.toNat - a := by omega
    have hpaid := marked.applyTender_eq it.slot { x.noteExcess amount.toNat with lateApproval := true } tender
      (settled := settled) (s.approvalTender_settles x it.payment offline amount.toNat reference.toNat) (z := z)
      (by rw [Party.noteExcess_eq, ← decide_eq_decide.mpr hexcess])
    refine ⟨(marked.applyTender it.slot { x.noteExcess amount.toNat with lateApproval := true } tender).updateSign.raise
      .paymentResult, ?_, ?_, ?_, ?_, ?_, ?_, ?_⟩
    · refine request_answer hp rfl (hanswer.trans ((approveLate_applied hfound hlate).trans ?_))
      rw [applyLate, approvalStatus_eq, approvalResults_eq, ite_of_iff hexcess]
      rfl
    · rw [State.raise_table, State.updateSign_table, hpaid]
      rfl
    · rw [State.raise_journal, State.updateSign_journal, hpaid]
    · rw [State.raise_pay, State.updateSign_pay, State.applyTender_pay]
    · exact State.raise_congr ((State.updateSign_notices _).trans (State.applyTender_notices _ _ _ _)) _
    · rw [State.raise_intercom, State.updateSign_intercom, State.applyTender_intercom]
    · rw [State.raise_shift, State.updateSign_shift, State.applyTender_shift]

/-! ## Cash (R105, R106) -/

section Cash

variable {s : State} {slot : Byte} {amount : Nat} {i : Fin 4} {x : Party}

theorem cashSettle_range (h : 3 < slot.toNat ∨ amount < 1 ∨ moneyMax < amount) : cashSettle slot amount s = refuse s .range := by
  obtain h | h := h
  · rw [cashSettle, slotOf_none h]
  · unfold cashSettle
    split
    · rfl
    · exact if_pos h

theorem cashSettle_vacant (hslot : slot.toNat = i.val) (hlow : 1 ≤ amount) (hhigh : amount ≤ moneyMax)
    (h : s.party i = none) : cashSettle slot amount s = refuse s .unknown := by
  simp only [cashSettle, slotOf_eq hslot, h]
  exact if_neg (by omega)

theorem cashSettle_closing (hslot : slot.toNat = i.val) (hlow : 1 ≤ amount) (hhigh : amount ≤ moneyMax)
    (hx : s.party i = some x) (h : x.state = .closing) : cashSettle slot amount s = refuse s .busy := by
  simp only [cashSettle, slotOf_eq hslot, hx, h]
  exact if_neg (by omega)

theorem cashSettle_paying (hslot : slot.toNat = i.val) (hlow : 1 ≤ amount) (hhigh : amount ≤ moneyMax)
    (hx : s.party i = some x) (h : x.state = .paying) : cashSettle slot amount s = refuse s .locked := by
  simp only [cashSettle, slotOf_eq hslot, hx, h]
  exact if_neg (by omega)

theorem cashSettle_running (hslot : slot.toNat = i.val) (hlow : 1 ≤ amount) (hhigh : amount ≤ moneyMax)
    (hx : s.party i = some x) (h : x.state = .running) : cashSettle slot amount s = refuse s .state := by
  simp only [cashSettle, slotOf_eq hslot, hx, h]
  exact if_neg (by omega)

theorem cashSettle_full (hslot : slot.toNat = i.val) (hlow : 1 ≤ amount) (hhigh : amount ≤ moneyMax)
    (hx : s.party i = some x) (h : x.state = .stopped) (hfull : 4 ≤ x.tenders.length) :
    cashSettle slot amount s = refuse s .full := by
  simp only [cashSettle, slotOf_eq hslot, hx, h, if_pos hfull]
  exact if_neg (by omega)

theorem cashSettle_short (hslot : slot.toNat = i.val) (hlow : 1 ≤ amount) (hhigh : amount ≤ moneyMax)
    (hx : s.party i = some x) (h : x.state = .stopped) (hlast : x.tenders.length = 3) (hshort : amount < x.remaining) :
    cashSettle slot amount s = refuse s .range := by
  simp only [cashSettle, slotOf_eq hslot, hx, h]
  rw [if_neg (by omega), if_neg (by omega), if_pos ⟨hlast, hshort⟩]

theorem cashSettle_taken (hslot : slot.toNat = i.val) (hlow : 1 ≤ amount) (hhigh : amount ≤ moneyMax)
    (hx : s.party i = some x) (h : x.state = .stopped)
    (hplace : x.tenders.length < 3 ∨ x.tenders.length = 3 ∧ x.remaining ≤ amount) :
    cashSettle slot amount s = cashTaken i x amount s := by
  simp only [cashSettle, slotOf_eq hslot, hx, h]
  rw [if_neg (by omega), if_neg (by omega), if_neg (by omega)]

/-- R106: the results of the cash applied and the change. -/
theorem cashResults_eq (x : Party) (amount : Nat) :
    u32 (min amount x.remaining) ++ u32 (amount - x.remaining) ++ u32 (x.remaining - amount) ++
      u8 (partyStateCode (if x.remaining ≤ amount then .closing else .stopped)) =
    u32 (min amount x.remaining) ++ u32 (amount - min amount x.remaining) ++
      u32 (x.remaining - min amount x.remaining) ++ u8 (if decide (x.remaining ≤ amount) then 4 else 2) := by
  have hchange : amount - min amount x.remaining = amount - x.remaining := by omega
  have hrest : x.remaining - min amount x.remaining = x.remaining - amount := by omega
  rw [hchange, hrest]
  by_cases h : x.remaining ≤ amount <;> simp [partyStateCode, h]

/-- The party that a cash settlement leaves, with a tender for what remained. -/
theorem cashPaid_eq {settled : Bool} (hsettled : settled = decide (x.remaining ≤ amount)) {z : Party} (hz : z = { x with
      state := if settled then .closing else .stopped, payment := none
      tenders := if x.remaining = 0 then x.tenders else x.tenders ++ [.cash (min amount x.remaining)] }) :
    (if x.remaining = 0 then s.enterClosing i x else s.applyTender i x (.cash (min amount x.remaining))) =
      { s.setParty i (some z) with
        journal := if settled then s.journal.append (.trip (tripEntry s.meas.cal.k i z)) else s.journal } := by
  by_cases h : x.remaining = 0
  · have hclosed : settled = true := hsettled.trans (decide_eq_true (by omega))
    rw [if_pos h, State.enterClosing_eq, hz, hclosed, if_pos h]
    rfl
  · rw [if_neg h]
    refine s.applyTender_eq i x _ ?_ (hz.trans (by rw [if_neg h]))
    rw [hsettled, decide_eq_true_iff]
    show x.remaining ≤ amount ↔ x.remaining ≤ min amount x.remaining
    omega

end Cash

/-- Settles O35: CASH_SETTLE's outcomes in their order, and the entry that a closing queues. -/
theorem cashSettlesTheParty : Obligations.CashSettlesTheParty := by
  refine ⟨fun s slot amount i x hp hslot hlow hhigh hx hstate hplace => ?taken, fun s slot amount hp =>
    ⟨fun h => request_refused hp rfl (cashSettle_range h), fun i hslot hlow hhigh =>
      ⟨fun h => request_refused hp rfl (cashSettle_vacant hslot hlow hhigh h), fun x hx =>
        ⟨fun h => request_refused hp rfl (cashSettle_closing hslot hlow hhigh hx h),
          fun h => request_refused hp rfl (cashSettle_paying hslot hlow hhigh hx h),
          fun h => request_refused hp rfl (cashSettle_running hslot hlow hhigh hx h),
          fun h hfull => request_refused hp rfl (cashSettle_full hslot hlow hhigh hx h hfull),
          fun h hlast hshort => request_refused hp rfl (cashSettle_short hslot hlow hhigh hx h hlast hshort)⟩⟩⟩,
    fun k i x => rfl⟩
  case taken =>
    refine request_answer hp rfl ((cashSettle_taken hslot hlow hhigh hx hstate hplace).trans ?_)
    rw [cashTaken, cashPaid_eq rfl rfl, cashResults_eq]

end Sys2Proof.Machine
end


section
/-! The journal (R110 to R117): reading, acknowledging, the bytes of an entry, and what a completion stores. -/

namespace Sys2Proof.Machine

theorem Port.every_has (p : Port) : PortSet.every.has p = true := by cases p <;> rfl

/-! ## Reading and acknowledging (R116, R117) -/

section Reading

variable {j : RecordStore} {s : State} {seq : Nat} {older newer : List Entry} {e : Entry}

theorem RecordStore.find_oldest (j : RecordStore) : j.find 0 = j.stored := if_pos rfl

theorem RecordStore.find_named (hseq : seq ≠ 0) (hstored : j.stored = older ++ e :: newer) (he : e.seq = seq)
    (holder : ∀ d ∈ older, d.seq ≠ seq) : j.find seq = e :: newer := by
  rw [RecordStore.find, if_neg hseq, hstored, List.dropWhile_append_of_pos (fun d hd => decide_eq_true (holder d hd)),
    List.dropWhile_cons_of_neg (by simp [he])]

theorem RecordStore.find_absent (hseq : seq ≠ 0) (h : ∀ d ∈ j.stored, d.seq ≠ seq) : j.find seq = [] := by
  rw [RecordStore.find, if_neg hseq, ← List.append_nil j.stored,
    List.dropWhile_append_of_pos (fun d hd => decide_eq_true (h d hd)), List.dropWhile_nil]

theorem journalRead_found (h : s.journal.find seq = e :: newer) : journalRead seq s =
    ⟨s, .ok, u32 ((newer.head?.map (·.seq)).getD 0) ++ entryBytes e⟩ := by
  cases newer <;> simp only [journalRead, h] <;> rfl

theorem journalRead_absent (h : s.journal.find seq = []) : journalRead seq s = refuse s .unknown := by
  simp only [journalRead, h]

theorem journalAck_range (h : s.journal.nextSeq - 1 < seq) : journalAck seq s = refuse s .range := if_pos h

theorem journalAck_taken (h : seq ≤ s.journal.nextSeq - 1) : journalAck seq s =
    ⟨{ s with journal := s.journal.ack seq }, .ok, u8 (if (s.journal.ack seq).stored.isEmpty then 0 else 1) ++
      u16 (s.journal.stored.length - (s.journal.ack seq).stored.length) ++
      u32 (((s.journal.ack seq).stored.head?.map (·.seq)).getD 0) ++ u16 (s.journal.ack seq).free⟩ := by
  have holdest : presence [(s.journal.ack seq).oldest.isSome] =
      u8 (if (s.journal.ack seq).stored.isEmpty then 0 else 1) := by
    rw [presence_one, RecordStore.oldest]
    cases (s.journal.ack seq).stored <;> rfl
  rw [journalAck, if_neg (Nat.not_lt.mpr h)]
  dsimp only
  rw [holdest]
  rfl

end Reading

/-! ## The bytes of an entry (R201, R204) -/

theorem u16_eq (n : Nat) : u16 n = u8 n ++ u8 (n / 256) := rfl

theorem leBytes_four (n : Nat) : u32 n = u16 n ++ u16 (n / 65536) := by
  simp only [u32, u16, leBytes, Nat.div_div_eq_div_mul]
  rfl

theorem leBytes_eight (n : Nat) : u64 n = u32 n ++ u32 (n / 4294967296) := by
  simp only [u64, u32, leBytes, Nat.div_div_eq_div_mul]
  rfl

theorem metresField_eq {d : Nat} (h : d ≤ max32) : metresField d = u32 d := if_pos h

theorem flagBits_two (a b : Bool) : flagBits [a, b] = (if a then 1 else 0) + (if b then 2 else 0) := by
  revert a b
  decide

theorem flagBits_five (a b c d e : Bool) : flagBits [a, b, c, d, e] = (if a then 1 else 0) + (if b then 2 else 0) +
    (if c then 4 else 0) + (if d then 8 else 0) + (if e then 16 else 0) := by
  revert a b c d e
  decide

theorem extraBytes_eq (x : Extra) : extraBytes x =
    u8 (x.kind.val + 1) ++ u8 (match x.cls with | .surcharge => 0 | .passThrough => 1) ++ u32 x.amount := by
  unfold extraBytes
  cases x.cls <;> rfl

theorem tenderBytes_eq (x : Tender) : tenderBytes x = match x with
    | .cash a => u8 0 ++ u8 0 ++ u16 0 ++ u32 a ++ u32 0 ++ u32 0
    | .cardOnline a pay ref excess => u8 1 ++ u8 0 ++ u16 pay ++ u32 a ++ u32 ref ++ u32 excess
    | .cardOffline a pay ref excess above =>
      u8 2 ++ u8 (if above then 1 else 0) ++ u16 pay ++ u32 a ++ u32 ref ++ u32 excess := by
  cases x <;> rfl

/-- R201: the body of a TRIP entry, for a distance that its field holds. -/
theorem tripBytes_eq {x : TripEntry} (h : x.distance ≤ max32) : tripBytes x = u32 x.hire ++ u8 x.slot.val ++
    u8 ((if x.zoneAtStart.isSome then 1 else 0) + (if x.clockInvalid then 2 else 0)) ++
    u8 ((if x.saturated then 1 else 0) + (if x.extraDropped then 2 else 0) + (if x.powerInterrupted then 4 else 0) +
      (if x.lateApproval then 8 else 0) + (if x.excessCharged then 16 else 0)) ++
    u32 x.startTime ++ u32 x.stopTime ++ u16 ((x.zoneAtStart.map (·.toNat)).getD 0) ++ u8 (x.first.val + 1) ++
    u8 (x.last.val + 1) ++ u16 x.switches ++ u8 x.mostConcurrent ++ u32 x.distance ++ u32 x.chargedTime ++ u32 x.steps ++
    u32 x.fare ++ u32 x.tip ++ u8 x.extras.length ++ u8 x.tenders.length ++ x.extras.flatMap extraBytes ++
    x.tenders.flatMap tenderBytes := by
  unfold tripBytes
  rw [metresField_eq h, flagBits_two, flagBits_five, codeOrZero_eq]

theorem entryBytes_eq (e : Entry) : entryBytes e = u8 (entryCode e.body) ++ u32 e.seq ++ u32 e.time.clock ++
    u8 (if e.time.invalid then 1 else 0) ++ bodyBytes e.body := rfl

/-- Settles O36: the entry named, the entries left, and the head and body of each kind of entry. -/
theorem journalIsReadAndAcknowledged : Obligations.JournalIsReadAndAcknowledged := by
  refine ⟨fun s p seq older newer e hp hstored hseq => ?found, fun s p seq hp h => ?absent, fun s seq hp h => ?ack,
    fun s seq hp h => request_refused hp rfl (journalAck_range h),
    fun n => ⟨rfl, u16_eq n, leBytes_four n, leBytes_eight n⟩, ?bytes⟩
  case found =>
    have hfind : s.journal.find seq.toNat = e :: newer := by
      obtain ⟨rfl, rfl⟩ | ⟨hne, he, holder⟩ := hseq
      · exact s.journal.find_oldest.trans hstored
      · exact RecordStore.find_named (mt (word_zero_iff seq).mpr hne) hstored he holder
    cases newer with
    | nil | cons d newer => exact request_answer hp (Port.every_has p) (journalRead_found hfind)
  case absent =>
    refine request_refused hp (Port.every_has p) (journalRead_absent ?_)
    obtain ⟨rfl, hempty⟩ | ⟨hne, habsent⟩ := h
    · exact s.journal.find_oldest.trans hempty
    · exact RecordStore.find_absent (mt (word_zero_iff seq).mpr hne) habsent
  case ack => exact ⟨_, _, request_answer hp rfl (journalAck_taken h), rfl, rfl⟩
  case bytes =>
    intro bit code extra tender head
    have hextra : extraBytes = extra := funext extraBytes_eq
    have htender : tenderBytes = tender := funext tenderBytes_eq
    refine ⟨fun e x hbody hdistance => ?trip, fun e r hbody => ?shift, fun e o hbody => ?orphan,
      fun e oldK k oldC c count hbody => ?calibration, fun e old new hbody => ?tariff⟩
    case trip =>
      rw [entryBytes_eq, hbody, bodyBytes, tripBytes_eq hdistance, hextra, htender]
      simp only [← List.append_assoc]
      rfl
    case shift =>
      rw [entryBytes_eq, hbody]
      rfl
    case orphan =>
      rw [entryBytes_eq, hbody, bodyBytes, presence_one]
      simp only [← List.append_assoc]
      rfl
    case calibration | tariff =>
      rw [entryBytes_eq, hbody, bodyBytes]
      simp only [← List.append_assoc]
      rfl

/-! ## Appends (R113, R114) -/

theorem appendWriteStart_taken {s : State} (h : s.journal.places ≠ []) :
    appendWriteStart s = { s with journal := { s.journal with inFlight := true } } := by
  have hplaces : (s.journal.inFlight || !s.journal.places.isEmpty) = true := by simp [h]
  rw [appendWriteStart, hplaces]

section Completion

variable {s : State} {rest : List EntryBody}

/-- The record store once the entry in its first place is stored (R114). -/
def RecordStore.shifted (j : RecordStore) (rest : List EntryBody) (e : Entry) : RecordStore :=
  { stored := j.stored ++ [e], nextSeq := j.nextSeq + 1, places := rest ++ j.waiting.take 1, waiting := j.waiting.drop 1
    inFlight := false }

theorem RecordStore.complete_shifted {j : RecordStore} {b : EntryBody} (h : j.places = b :: rest) (e : Entry) :
    j.complete e = j.shifted rest e := by
  rw [RecordStore.complete, h]
  rfl

/-- A completion is the first entry stored, with its consequences (R114). -/
theorem appendComplete_stored {b : EntryBody} (hflight : s.journal.inFlight = true) (hplaces : s.journal.places = b :: rest)
    {e : Entry} (he : storedEntry s.journal.nextSeq s.store.now b = e) :
    appendComplete s = State.afterStored { s with journal := s.journal.shifted rest e } e := by
  have hflying : s.journal.flying = some b := by
    rw [RecordStore.flying, hflight, hplaces]
    rfl
  simp only [appendComplete, State.storeHead, hflying, he, RecordStore.complete_shifted hplaces]

end Completion

/-- Settles O37: the queue's places, the start of a write, and each completion without a slot or a shift. -/
theorem appendsAreStored : Obligations.AppendsAreStored := by
  refine ⟨fun j b => ⟨fun h => if_pos h, fun h => if_neg (Nat.not_lt.mpr h)⟩,
    fun s hp h => event_next hp (appendWriteStart_taken h), fun s b rest hp hflight hplaces => ?complete⟩
  case complete =>
    refine ⟨fun o hb => ?orphan, fun oldK k oldC c count hb => ?calibration, fun old v hb => ?tariff⟩ <;> subst hb <;>
      exact event_next hp (appendComplete_stored hflight hplaces rfl)

end Sys2Proof.Machine
end


section
/-! The shift (R129 to R139): a trip counted, a shift closed by its entry, and the closing report. -/

namespace Sys2Proof.Machine

/-! ## A trip counted (R129, R131, R144) -/

theorem Shift.countTrip_open {u : Shift} (h : u.state = .opened) (e : TripEntry) : u.countTrip e = { u with
    counters := u.counters.addTrip e, limitReached := u.limitReached || (u.counters.addTrip e).atLimit
    totals := u.totals.addTrip e } := by
  unfold Shift.countTrip
  rw [Shift.gain_open h]
  simp [h]

theorem Shift.countTrip_closed {u : Shift} (h : u.state ≠ .opened) (e : TripEntry) :
    u.countTrip e = { u with totals := u.totals.addTrip e } := by
  unfold Shift.countTrip
  rw [Shift.gain_closed h]
  simp [h]

theorem Shift.countTrip_totals (u : Shift) (e : TripEntry) : (u.countTrip e).totals = u.totals.addTrip e := by
  by_cases h : u.state = .opened
  · rw [Shift.countTrip_open h]
  · rw [Shift.countTrip_closed h]

theorem limit_reached_iff (a b : Nat) :
    shiftMoneyMax ≤ satAdd shiftMoneyMax a b ↔ satAdd shiftMoneyMax a b = 999999999 := by
  unfold satAdd shiftMoneyMax
  omega

/-- R129: a money counter has reached its limit. -/
theorem Counters.addTrip_atLimit (c : Counters) (e : TripEntry) : (c.addTrip e).atLimit = true ↔
    (c.addTrip e).fareTotal = 999999999 ∨ (c.addTrip e).surcharges = 999999999 ∨ (c.addTrip e).passThroughs = 999999999 ∨
    (c.addTrip e).tips = 999999999 ∨ (c.addTrip e).cash = 999999999 ∨ (c.addTrip e).cardOnline = 999999999 ∨
    (c.addTrip e).cardOffline = 999999999 := by
  simp only [Counters.atLimit, Counters.addTrip, limit_reached_iff, Bool.or_eq_true, decide_eq_true_iff, or_assoc]

section Completion

variable {s : State} {rest : List EntryBody}

/-- What a TRIP completion leaves (R80, R131, R144). -/
theorem appendComplete_trip_rest {e : TripEntry} (hflight : s.journal.inFlight = true)
    (hplaces : s.journal.places = .trip e :: rest) {t : State} (ht : appendComplete s = t) :
    t.table = { s.table with slots := s.table.slots.set e.slot none } ∧
    t.journal.stored = s.journal.stored ++
      [⟨s.journal.nextSeq, { clock := s.store.clock, invalid := s.store.clockInvalid }, .trip e⟩] ∧
    t.shift = s.shift.countTrip e ∧ t.sign.state = t.deriveSign ∧ t.meas = s.meas ∧ t.store = s.store ∧ t.pay = s.pay ∧
    t.intercom = s.intercom ∧ t.notices = s.notices := by
  subst ht
  rw [appendComplete_trip hflight hplaces]
  refine ⟨by rw [State.updateSign_table]; rfl, by rw [State.updateSign_journal]; rfl, by rw [State.updateSign_shift],
    State.updateSign_derived _, ?_, ?_, ?_, ?_, ?_⟩
  · rw [State.updateSign_meas]; rfl
  · rw [State.updateSign_store]; rfl
  · rw [State.updateSign_pay]; rfl
  · rw [State.updateSign_intercom]; rfl
  · rw [State.updateSign_notices]; rfl

/-- What a SHIFT completion leaves (R135, R138). -/
theorem appendComplete_shift_rest {r : ShiftReport} (hflight : s.journal.inFlight = true)
    (hplaces : s.journal.places = .shift r :: rest) {t : State} (ht : appendComplete s = t) :
    t.shift = s.shift.closeAt s.store.now ∧
    t.journal.stored = s.journal.stored ++ [{ seq := s.journal.nextSeq, time := s.store.now
                                              body := .shift { r with closeTime := some s.store.now } }] ∧
    t.notices = (s.raise .shiftClosed).notices ∧ t.table = s.table ∧ t.sign.state = t.deriveSign ∧ t.meas = s.meas ∧
    t.store = s.store ∧ t.pay = s.pay ∧ t.intercom = s.intercom := by
  subst ht
  rw [appendComplete_stored hflight hplaces rfl]
  have hstored : ∀ (u : State) (e : Entry), e.body = .shift { r with closeTime := some s.store.now } →
      u.afterStored e = (State.updateSign { u with shift := u.shift.closeAt e.time }).raise .shiftClosed := by
    intro u e he
    simp only [State.afterStored, he]
  rw [hstored _ _ rfl]
  refine ⟨?_, ?_, State.raise_congr ((State.updateSign_notices _).trans rfl) _, ?_, (State.updateSign_derived _).raise _, ?_,
    ?_, ?_, ?_⟩
  · rw [State.raise_shift, State.updateSign_shift]; rfl
  · rw [State.raise_journal, State.updateSign_journal]; rfl
  · rw [State.raise_table, State.updateSign_table]
  · rw [State.raise_meas, State.updateSign_meas]
  · rw [State.raise_store, State.updateSign_store]
  · rw [State.raise_pay, State.updateSign_pay]
  · rw [State.raise_intercom, State.updateSign_intercom]

end Completion

/-- Settles O38: a trip counted in an OPEN shift and outside it, and the close of a shift. -/
theorem tripsAreCountedAndShiftsClose : Obligations.TripsAreCountedAndShiftsClose := by
  refine ⟨fun a pay ref excess above => ⟨rfl, rfl, rfl, rfl, rfl, rfl, rfl, rfl, rfl, rfl, rfl, rfl⟩,
    fun s e rest hp hflight hplaces => ⟨_, event_next hp rfl, ?trip⟩,
    fun s r rest hp hflight hplaces => ⟨_, event_next hp rfl, ?shift⟩⟩
  case trip =>
    obtain ⟨htable, hstored, hshift, hsign, hmeas, hstore, hpay, hintercom, hnotices⟩ :=
      appendComplete_trip_rest hflight hplaces rfl
    refine ⟨htable, hstored, ?_, ?_, ?_, fun hopen => ?counted, fun hclosed => ?closed, ?_, hsign, hmeas, hstore, hpay,
      hintercom, hnotices⟩
    case counted =>
      rw [hshift, Shift.countTrip_open hopen]
      refine ⟨rfl, rfl, rfl, rfl, rfl, rfl, rfl, rfl, rfl, rfl, ?_⟩
      dsimp only
      rw [Bool.or_eq_true, Counters.addTrip_atLimit]
    case closed =>
      rw [hshift, Shift.countTrip_closed hclosed]
      exact ⟨rfl, rfl⟩
    case refine_4 => rw [hshift, (Shift.countTrip_state s.shift e).1]
    all_goals
      rw [hshift, Shift.countTrip_totals]
      rfl
  case shift => exact appendComplete_shift_rest hflight hplaces rfl

/-! ## Opening and closing (R133, R134) -/

section Requests

variable {s : State}

theorem shiftOpen_taken {driver n : Nat} (hlow : 1 ≤ driver) (hhigh : driver ≤ 999999) (hshift : s.shift.state = .closed)
    (hrun : s.meas.run.isAdopting = false) (hfree : 1 ≤ s.journal.free) (hn : s.shift.number = some n) :
    shiftOpen driver s = ⟨State.updateSign { s with shift := s.shift.openFor driver s.store.now }, .ok,
      u32 n ++ u32 driver ++ clockValue s.store.now⟩ := by
  have hclosed : s.shift.state ≠ .closing ∧ s.shift.state ≠ .opened := by
    rw [hshift]
    exact ⟨nofun, nofun⟩
  rw [shiftOpen, if_neg (by omega), if_neg hclosed.1, if_neg hclosed.2, hrun, if_neg Bool.false_ne_true,
    if_neg (Nat.not_lt.mpr hfree), hn]

theorem shiftClose_taken (hshift : s.shift.state = .opened) (hvacant : s.nonVacant = 0) : shiftClose s =
    ⟨State.updateSign { s with
        shift := { s.shift with state := .closing, closingRate := some s.shift.commission, closingK := some s.meas.cal.k }
        journal := s.journal.append (.shift s.closingReport)
        table := { s.table with onCall := false } }, .ok, reportBytes s.closingReport⟩ := by
  have hopen : s.shift.state ≠ .closing ∧ s.shift.state ≠ .closed := by
    rw [hshift]
    exact ⟨nofun, nofun⟩
  rw [shiftClose, if_neg hopen.1, if_neg hopen.2, if_neg (not_not_intro hvacant)]

end Requests

/-! ## The bytes of a report (R138, R201, R204) -/

theorem counterBytes_eq (c : Counters) : counterBytes c =
    u32 c.trips ++ u32 c.shared ++ u32 c.hiredPulses ++ u32 c.totalPulses ++ u32 c.fareTotal ++ u32 c.surcharges ++
    u32 c.passThroughs ++ u32 c.tips ++ u32 c.cash ++ u32 c.cardOnline ++ u32 c.cardOffline ++ u32 c.overAllowance ++
    u32 c.declines ++ u32 c.aborts ++ u32 c.expiries ++ u32 c.orphans ++ u32 c.overruns ++ u32 c.excessPulses ++
    u32 c.lampFaults ++ u32 c.powerInterruptions := by
  simp only [counterBytes, List.flatMap_cons, List.flatMap_nil, List.append_nil, List.append_assoc]

/-- R201: a signed number of four bytes. -/
theorem i32_eq (x : Int) : i32 x = u32 (x % 4294967296).toNat := by
  rw [i32, BitVec.toNat_ofInt]
  rfl

/-- The close time of a report, zeros where it has none. -/
theorem closeTime_bytes (t : Option Stamp) :
    (match t with | some t => clockValue t | none => u32 0 ++ u8 0) =
      u32 ((t.map (·.clock)).getD 0) ++ u8 (if (match t with | some x => x.invalid | none => false) then 1 else 0) := by
  cases t <;> rfl

theorem reportItems_eq (r : ShiftReport) : reportItems r =
    u32 r.number ++ u32 r.driver ++ clockValue r.openTime ++
    (match r.closeTime with | some t => clockValue t | none => u32 0 ++ u8 0) ++ yesNo r.clockInvalid ++
    counterBytes r.counters ++ yesNo r.limitReached ++ u16 r.k ++ u64 r.hiredMetres ++ u64 r.totalMetres ++ u16 r.rate ++
    u32 r.base ++ u32 r.share ++ i32 r.netOwed := rfl

/-- Settles O40: SHIFT_OPEN and SHIFT_CLOSE accepted, and the items of a report. -/
theorem shiftsOpenAndClose : Obligations.ShiftsOpenAndClose := by
  refine ⟨fun s driver n hp hlow hhigh hshift hrun hfree hn =>
      request_answer hp rfl (shiftOpen_taken hlow hhigh hshift hrun hfree hn),
    fun s hp hshift hvacant => ⟨s.closingReport, rfl, rfl, rfl, rfl, rfl, rfl, rfl, rfl, rfl, rfl, rfl, rfl, rfl,
      request_answer hp rfl (shiftClose_taken hshift hvacant)⟩, fun r => ?report, rfl, fun x => rfl⟩
  case report =>
    intro c net late flag
    refine ⟨by rw [reportBytes, presence_one], ?_⟩
    rw [reportItems_eq, closeTime_bytes, counterBytes_eq, i32_eq]
    rfl

end Sys2Proof.Machine
end


section
/-! The sign and its lamps (R147 to R157): the requests, the test timer, the phases and the sign derived afresh. -/

namespace Sys2Proof.Machine

/-! ## A lamp in step with its phase (R149) -/

theorem Vector.toList_eq_map {α : Type} {n : Nat} (v : Vector α n) :
    v.toArray.toList = (List.finRange n).map (fun i => v[i]) :=
  List.ext_getElem (by simp) fun i hi hi' => by simp

/-- Settling changes a lamp's modulation period alone. -/
theorem Sign.settleLamps_lamp_rest (g : Sign) (i : Fin 4) :
    g.settleLamps.lamps[i] = { g.lamps[i] with period := (g.settleLamps.lamps[i]).period } := by
  rw [Sign.settleLamps_lamp, Lamp.settle_eq]

/-- A settled lamp: no modulation period in an off phase; in an on phase the one that ran, or one at its first slot. -/
theorem Sign.settleLamps_settled (g : Sign) (i : Fin 4) {l : Lamp} (hl : (g.lamps[i]).period = l.period) :
    (g.settleLamps.channelLit i g.settleLamps.lamps[i] = false → (g.settleLamps.lamps[i]).period = none) ∧
    (g.settleLamps.channelLit i g.settleLamps.lamps[i] = true → (g.settleLamps.lamps[i]).period =
      some (l.period.getD { slot := 0, width := (g.settleLamps.level * 256 + 50) / 100 })) := by
  rw [← Sign.settleLamps_lit, Sign.settleLamps_lamp, Lamp.settle_period_isSome, Lamp.settle_eq]
  dsimp only
  rw [hl]
  refine ⟨fun h => ?_, fun h => ?_⟩ <;> rw [h] <;> rfl

theorem Lamp.driven_none {l : Lamp} (h : l.period = none) : l.driven = false := by
  rw [Lamp.driven, h]

theorem Lamp.driven_iff {l : Lamp} {m : Modulation} (h : l.period = some m) : l.driven = true ↔ m.slot < m.width := by
  rw [Lamp.driven, h]
  exact decide_eq_true_iff

/-! ## The requests (R150 to R153, R157) -/

theorem Sign.setLevels_eq (g : Sign) (day night : Nat) : g.setLevels day night = { g with
    dayLevel := max 40 day, nightLevel := max 40 night
    level := if g.period = .night then max 40 night else max 40 day } := by
  unfold Sign.setLevels
  dsimp only
  rw [Sign.levelFor_eq]

theorem presence_two (a b : Bool) : presence [a, b] = u8 ((if a then 1 else 0) + (if b then 2 else 0)) := by
  cases a <;> cases b <;> rfl

theorem setBrightness_taken {s : State} {day night : Nat} (hday : day ≤ 100) (hnight : night ≤ 100) {g : Sign}
    (hg : s.sign.setLevels day night = g) : setBrightness day night s =
      ⟨{ s with sign := g }, if day < 40 ∨ night < 40 then .clamped else .ok,
        u8 ((if day < 40 then 1 else 0) + (if night < 40 then 2 else 0)) ++ u8 (if day < 40 then 40 else 0) ++
          u8 (if night < 40 then 40 else 0) ++ u8 g.dayLevel ++ u8 g.nightLevel ++ u16 (onSlots g.level)⟩ := by
  rw [setBrightness, if_neg (by omega), hg, presence_two]
  simp only [decide_eq_true_eq]

/-- The override that a byte of LAMP_TEST sets (R151). -/
theorem overrideOf_eq {b : Byte} (h : b.toNat ≤ 2) :
    overrideOf b = some (if b.toNat = 0 then Override.normal else if b.toNat = 1 then .on else .off) := by
  unfold overrideOf
  split
  · rfl
  split
  · rfl
  · rw [if_pos (by omega)]

theorem overrideCode_eq {n : Nat} (h : n ≤ 2) :
    overrideCode (if n = 0 then Override.normal else if n = 1 then .on else .off) = n := by
  match n with
  | 0 | 1 | 2 => rfl

theorem override_normal_iff (b : Byte) :
    (if b.toNat = 0 then Override.normal else if b.toNat = 1 then .on else .off) = .normal ↔ b = 0 := by
  rw [← BitVec.toNat_inj]
  show _ ↔ b.toNat = 0
  split
  · next h => simp [h]
  · next h => split <;> simp [h]

theorem lampTest_taken {s : State} {a b c d : Byte} {x y z w : Override} (hvacant : s.nonVacant = 0)
    (ha : overrideOf a = some x) (hb : overrideOf b = some y) (hc : overrideOf c = some z) (hd : overrideOf d = some w) :
    lampTest a b c d s = ⟨{ s with sign := s.sign.force x y z w }, .ok,
      u8 (overrideCode x) ++ u8 (overrideCode y) ++ u8 (overrideCode z) ++ u8 (overrideCode w)⟩ := by
  simp only [lampTest, ha, hb, hc, hd]
  exact if_neg (not_not_intro hvacant)

theorem Sign.force_lamp (g : Sign) (a b c d : Override) (i : Fin 4) : (g.force a b c d).lamps[i] =
    { g.lamps[i] with
      override := overrideAt a b c d i, period := ((g.force a b c d).lamps[i]).period } := by
  unfold Sign.force
  rw [Sign.settleLamps_lamp_rest, mapVectorIdx_getElem]

theorem Sign.dropTest_lamp (g : Sign) (i : Fin 4) : g.dropTest.lamps[i] = { g.lamps[i] with override := .normal } :=
  mapVector_getElem _ _ _

theorem Sign.endTest_lamp (g : Sign) (i : Fin 4) :
    g.endTest.lamps[i] = { g.lamps[i] with override := .normal, period := (g.endTest.lamps[i]).period } := by
  unfold Sign.endTest
  rw [Sign.settleLamps_lamp_rest, Sign.dropTest_lamp]

theorem Sign.clearFaults_lamp (g : Sign) (i : Fin 4) :
    g.clearFaults.lamps[i] = { g.lamps[i] with dark := 0, latch := false } :=
  mapVector_getElem _ _ _

theorem lampClear_eq (s : State) : lampClear s = ⟨{ s with sign := s.sign.clearFaults }, .ok,
    (List.finRange 4).flatMap (fun i => u8 (if (s.sign.lamps[i]).latch then 1 else 0))⟩ := by
  rw [lampClear, Vector.toList_eq_map, List.flatMap_map]
  rfl

theorem testTimerExpiry_running {s : State} (h : s.sign.test ≠ some 0) : testTimerExpiry s = s := if_neg h

theorem testTimerExpiry_out {s : State} (h : s.sign.test = some 0) :
    testTimerExpiry s = { s with sign := s.sign.endTest } := if_pos h

/-! ## The phases (R148) -/

theorem Sign.phaseEnd_none {g : Sign} (harrived : g.state ≠ .arrived) (hcall : g.state ≠ .onCall) : g.phaseEnd = none := by
  unfold Sign.phaseEnd
  split
  · next h => exact absurd h harrived
  · next h => exact absurd h hcall
  · rfl

theorem Sign.phaseEnd_arrived {g : Sign} (h : g.state = .arrived) :
    g.phaseEnd = some (if g.phase < 500 then 500 else 1000) := by
  simp only [Sign.phaseEnd, h]

theorem Sign.phaseEnd_onCall {g : Sign} (h : g.state = .onCall) :
    g.phaseEnd = some (if g.phase < 100 then 100 else 1000) := by
  simp only [Sign.phaseEnd, h]

/-- The sign after a phase change. -/
def Sign.phaseChanged (g : Sign) : Sign :=
  match g.phaseEnd with
  | some t => Sign.settleLamps { g with phase := t % 1000 }
  | none => g

theorem lampPhaseChange_eq (s : State) : lampPhaseChange s = { s with sign := s.sign.phaseChanged } := by
  unfold lampPhaseChange Sign.phaseChanged
  cases s.sign.phaseEnd <;> rfl

theorem Sign.phaseChanged_none {g : Sign} (h : g.phaseEnd = none) : g.phaseChanged = g := by
  rw [Sign.phaseChanged, h]

theorem Sign.phaseChanged_some {g : Sign} {t : Nat} (h : g.phaseEnd = some t) :
    g.phaseChanged = Sign.settleLamps { g with phase := t % 1000 } := by
  rw [Sign.phaseChanged, h]

theorem Sign.phaseChanged_rest (g : Sign) : g.phaseChanged = { g with phase := g.phaseChanged.phase, lamps := g.phaseChanged.lamps } := by
  unfold Sign.phaseChanged
  split <;> rfl

/-! ## The sign derived afresh (R147) -/

/-- At the start of its state a channel is in its on phase but where it is DARK or forced off (R148, R152). -/
theorem Sign.enter_lit (g : Sign) (st : SignState) (i : Fin 4) :
    (g.enter st).channelLit i (g.enter st).lamps[i] = true ↔
      (g.lamps[i]).override = .on ∨ (g.lamps[i]).override = .normal ∧ channelMode st i ≠ .dark := by
  rw [Sign.enter_lamp]
  unfold Sign.channelLit
  dsimp only
  cases (g.lamps[i]).override with
  | on => simp
  | off => simp
  | normal =>
    show (channelMode st i).lit 0 = true ↔ _
    cases channelMode st i <;> simp [ChannelMode.lit]

theorem ChannelMode.timed_iff (m : ChannelMode) : m.timed = true ↔ m = .blink ∨ m = .strobe := by
  cases m <;> simp [ChannelMode.timed]

section Enter

variable (g : Sign) (st : SignState) (i : Fin 4)

/-- A channel that enters BLINK or STROBE begins an on phase. -/
theorem Sign.enter_begins (h : (g.lamps[i]).override = .normal ∧ (channelMode st i = .blink ∨ channelMode st i = .strobe)) :
    ((g.enter st).lamps[i]).period = some { slot := 0, width := (g.level * 256 + 50) / 100 } := by
  have hlit := (Sign.enter_lit g st i).mpr (.inr ⟨h.1, by obtain h | h := h.2 <;> rw [h] <;> nofun⟩)
  refine (Sign.settleLamps_settled _ i (l := { g.lamps[i] with period := none }) ?_).2 hlit
  rw [mapVectorIdx_getElem, if_pos ⟨(ChannelMode.timed_iff _).mpr h.2, h.1⟩]

/-- Every other channel's modulation period goes on, or begins, or ends, with its phase. -/
theorem Sign.enter_settled (h : ¬((g.lamps[i]).override = .normal ∧ (channelMode st i = .blink ∨ channelMode st i = .strobe))) :
    ((g.enter st).channelLit i (g.enter st).lamps[i] = false → ((g.enter st).lamps[i]).period = none) ∧
    ((g.enter st).channelLit i (g.enter st).lamps[i] = true → ((g.enter st).lamps[i]).period =
      some ((g.lamps[i]).period.getD { slot := 0, width := ((g.enter st).level * 256 + 50) / 100 })) := by
  refine Sign.settleLamps_settled _ i ?_
  rw [mapVectorIdx_getElem, if_neg fun ⟨htimed, hnormal⟩ => h ⟨hnormal, (ChannelMode.timed_iff _).mp htimed⟩]

end Enter

theorem State.updateSign_same {s : State} (h : s.deriveSign = s.sign.state) : s.updateSign = s := if_pos h

theorem State.updateSign_enters {s : State} (h : s.deriveSign ≠ s.sign.state) :
    s.updateSign = { s with sign := s.sign.enter s.deriveSign } := if_neg h

/-- Settles O42: each request and event, the lamps settled by each, and the sign that enters another state. -/
theorem lampRequestsAreTaken : Obligations.LampRequestsAreTaken := by
  unfold Obligations.LampRequestsAreTaken
  intro settled
  refine ⟨fun s day night hp hday hnight => ?brightness, fun s a b c d hp ha hb hc hd hvacant => ?test,
    fun s hp => ⟨_, request_answer hp rfl (lampClear_eq s), rfl, Sign.clearFaults_lamp _⟩,
    fun s hp h => event_next hp (testTimerExpiry_running h),
    fun s hp h => ⟨_, event_next hp (testTimerExpiry_out h), rfl, fun i => ⟨Sign.endTest_lamp _ i, ?endTest⟩⟩,
    fun s hp => ⟨_, event_next hp (lampPhaseChange_eq s), ?still, ?arrived, ?onCall, Sign.phaseChanged_rest _, ?phase⟩,
    fun l => ⟨Lamp.driven_none, fun m => Lamp.driven_iff⟩, fun s => ⟨State.updateSign_same, fun h => ?enters⟩, ?modes⟩
  case brightness => exact request_answer hp rfl (setBrightness_taken hday hnight (Sign.setLevels_eq _ _ _))
  case test =>
    have htaken := lampTest_taken hvacant (overrideOf_eq ha) (overrideOf_eq hb) (overrideOf_eq hc) (overrideOf_eq hd)
    rw [overrideCode_eq ha, overrideCode_eq hb, overrideCode_eq hc, overrideCode_eq hd] at htaken
    refine ⟨_, request_answer hp rfl htaken, rfl, ?_, ?_, ?_, ?_, fun i => ⟨?_, ?_, ?_⟩, ?_⟩
    case refine_8 =>
      refine ite_of_iff ?_
      rw [override_normal_iff, override_normal_iff, override_normal_iff, override_normal_iff]
    case refine_7 => exact Sign.settleLamps_settled _ i (by rw [mapVectorIdx_getElem])
    all_goals rw [Sign.force_lamp]
    all_goals rfl
  case endTest => exact Sign.settleLamps_settled _ i (by rw [Sign.dropTest_lamp])
  case still => exact fun harrived hcall => Sign.phaseChanged_none (Sign.phaseEnd_none harrived hcall)
  case arrived =>
    intro h
    rw [Sign.phaseChanged_some (Sign.phaseEnd_arrived h)]
    show (if s.sign.phase < 500 then 500 else 1000) % 1000 = _
    split <;> rfl
  case onCall =>
    intro h
    rw [Sign.phaseChanged_some (Sign.phaseEnd_onCall h)]
    show (if s.sign.phase < 100 then 100 else 1000) % 1000 = _
    split <;> rfl
  case phase =>
    intro h i
    obtain ⟨t, ht⟩ : ∃ t, s.sign.phaseEnd = some t := by
      obtain h | h := h
      · exact ⟨_, Sign.phaseEnd_arrived h⟩
      · exact ⟨_, Sign.phaseEnd_onCall h⟩
    rw [Sign.phaseChanged_some ht]
    exact ⟨Sign.settleLamps_lamp_rest _ i, Sign.settleLamps_settled _ i rfl⟩
  case enters =>
    rw [State.updateSign_enters h]
    exact ⟨rfl, rfl, fun i => ⟨Sign.enter_lamp _ _ i, Sign.enter_lit _ _ i, Sign.enter_begins _ _ i, Sign.enter_settled _ _ i⟩⟩
  case modes => exact ⟨rfl, rfl, rfl, rfl, rfl, rfl, rfl⟩

end Sys2Proof.Machine
end


section
/-! The intercom (R162 to R175): path gain, mode and mutes, the gates, and the floor between the talk keys. -/

namespace Sys2Proof.Machine

/-! ## The settings (R162, R167, R168) -/

section Settings

variable {s : State}

theorem setPathGain_taken {path : Byte} {a : AudioPath} {gain delay : Nat} (hpath : pathOf path = some a) (hgain : gain ≤ 1023)
    (hdelay : delay = 0 ∨ delay = 100 ∨ delay = 200 ∨ delay = 300) : setPathGain path gain delay s =
      ⟨s.setIntercom { s.intercom with
          paths := s.intercom.paths.set a { (s.intercom.paths.get a) with gain := gain, release := delay } }, .ok,
        u16 (s.intercom.paths.get a).gain ++ u16 (s.intercom.paths.get a).release ++ u16 gain ++ u16 delay⟩ := by
  have hrelease : releaseOk delay = true := by simpa [releaseOk, or_assoc] using hdelay
  have htaken : ¬(1023 < gain ∨ releaseOk delay = false) := by
    rw [hrelease]
    rintro (h | h)
    · omega
    · cases h
  simp only [setPathGain, hpath, if_neg htaken]

theorem modeOf_code {b : Byte} {m : IntercomMode} (h : b.toNat = modeCode m) : modeOf b = some m := by
  unfold modeOf
  rw [h]
  cases m <;> rfl

theorem setIntercomMode_same {mode : Byte} {m : IntercomMode} (hmode : modeOf mode = some m) (h : m = s.intercom.mode) :
    setIntercomMode mode s = ⟨s, .ok, u8 (modeCode s.intercom.mode) ++ u8 (modeCode m)⟩ := by
  simp only [setIntercomMode, hmode, if_pos h]

theorem setIntercomMode_other {mode : Byte} {m : IntercomMode} (hmode : modeOf mode = some m) (h : m ≠ s.intercom.mode) :
    setIntercomMode mode s = ⟨((s.setIntercom (s.intercom.enterMode m)).raiseIf
      (decide (s.intercom.mode = .halfDuplex) && s.intercom.floor.isSome) .talkFloor).settleGates, .ok,
        u8 (modeCode s.intercom.mode) ++ u8 (modeCode m)⟩ := by
  simp only [setIntercomMode, hmode, if_neg h]

/-- Leaving HALF_DUPLEX drops the floor (R167). -/
theorem Intercom.enterMode_half {c : Intercom} (h : c.mode = .halfDuplex) (m : IntercomMode) :
    c.enterMode m = { c with mode := m, floor := none, claimant := none, floorTimer := none } := if_pos h

theorem Intercom.enterMode_other {c : Intercom} (h : c.mode ≠ .halfDuplex) (m : IntercomMode) :
    c.enterMode m = { c with mode := m } := if_neg h

theorem flag_byte {b : Byte} (h : b.toNat ≤ 1) : yesNo (decide (b.toNat = 1)) = u8 b.toNat := by
  obtain h | h : b.toNat = 0 ∨ b.toNat = 1 := by omega
  all_goals rw [h]; rfl

theorem setIntercomMute_taken {mute privacy : Byte} (hmute : mute.toNat ≤ 1) (hprivacy : privacy.toNat ≤ 1) :
    setIntercomMute mute privacy s = ⟨(s.setIntercom { s.intercom with
      driverMute := decide (mute.toNat = 1), privacy := decide (privacy.toNat = 1) }).settleGates, .ok,
        u8 mute.toNat ++ u8 privacy.toNat⟩ := by
  simp only [setIntercomMute, flagOf_eq hmute, flagOf_eq hprivacy, flag_byte hmute, flag_byte hprivacy]

end Settings

/-! ## The gates and their factors (R163, R165) -/

theorem gateAfter_active {active : Bool} (h : active = true) (l : AudioLine) : (gateAfter active l).gate = .muted := by
  rw [h]
  rfl

theorem gateAfter_released {active : Bool} {l : AudioLine} (h : active = false) (hgate : l.gate = .muted) :
    (gateAfter active l).gate = if l.release = 0 then .passing else .releasing l.release := by
  simp only [gateAfter, h, hgate]
  rfl

theorem gateAfter_kept {active : Bool} {l : AudioLine} (h : active = false) (hgate : l.gate ≠ .muted) :
    (gateAfter active l).gate = l.gate := by
  simp only [gateAfter, h]
  cases hl : l.gate with
  | muted => exact absurd hl hgate
  | releasing | passing => simpa using hl

/-- R163: the factors of each path. -/
theorem State.factors_eq (s : State) (path : AudioPath) : s.factors path =
    { rate := s.intercom.codecs.front.fault || s.intercom.codecs.rear.fault
      closed := decide (s.intercom.mode = .closed)
      driverMute := decide (path = .frontToRear) && s.intercom.driverMute
      privacy := decide (path = .rearToFront) && s.intercom.privacy
      pin := decide (path = .rearToFront) && decide (s.pay.session.map (·.pinEntry) = some true)
      pinGuard := decide (path = .rearToFront) && s.pay.guardTimer.isSome
      floor := decide (s.intercom.mode = .halfDuplex) &&
        decide (s.intercom.floor = some (match path with | .frontToRear => .rear | .rearToFront => .driver))
      tone := (s.intercom.speakers.get (farSpeaker path)).playing.isSome } := by
  have hpin : s.pay.pinEntry = decide (s.pay.session.map (·.pinEntry) = some true) := by
    unfold Payment.pinEntry
    cases s.pay.session with
    | none => rfl
    | some y => simp
  rw [← hpin]
  cases path <;> rfl

theorem Factors.any_iff (f : Factors) : f.any = true ↔ f.rate = true ∨ f.closed = true ∨ f.driverMute = true ∨
    f.privacy = true ∨ f.pin = true ∨ f.pinGuard = true ∨ f.floor = true ∨ f.tone = true := by
  simp only [Factors.any, Bool.or_eq_true, or_assoc]

theorem AudioLine.pass_out {l : AudioLine} (h : l.gate = .releasing 0) : l.pass = { l with gate := .passing } := by
  simp only [AudioLine.pass, h]

theorem AudioLine.pass_running {l : AudioLine} (h : l.gate ≠ .releasing 0) : l.pass = l := by
  unfold AudioLine.pass
  split
  · next hg => exact absurd hg h
  · rfl

theorem releaseTimerExpiry_running {s : State} {path : AudioPath} (h : (s.intercom.paths.get path).gate ≠ .releasing 0) :
    releaseTimerExpiry path s = s := by
  rw [releaseTimerExpiry, AudioLine.pass_running h]
  cases path <;> rfl

theorem releaseTimerExpiry_out {s : State} {path : AudioPath} (h : (s.intercom.paths.get path).gate = .releasing 0) :
    releaseTimerExpiry path s = { s with intercom := { s.intercom with
      paths := s.intercom.paths.set path { (s.intercom.paths.get path) with gate := .passing } } } := by
  rw [releaseTimerExpiry, AudioLine.pass_out h]
  rfl

/-- Settles O43: each setting, each factor, and what an update and the release timer leave of a gate. -/
theorem intercomIsSetAndGatesFollow : Obligations.IntercomIsSetAndGatesFollow := by
  refine ⟨fun s path gain delay hp hgain hdelay => ?gain, fun s mode m hp hmode => ⟨fun h => ?same, fun h hhalf => ?other,
      fun h hhalf hfloor => ?unheld, fun h hhalf hfloor => ?held⟩,
    fun s mute privacy hp hmute hprivacy => request_answer hp rfl (setIntercomMute_taken hmute hprivacy),
    fun s path => ?gates, fun s => ⟨?front, ?rear⟩, Factors.any_iff,
    fun s path hp h => event_next hp (releaseTimerExpiry_running h),
    fun s path hp h => event_next hp (releaseTimerExpiry_out h)⟩
  case gain =>
    have hpath : pathOf (match path with | .frontToRear => 0#8 | .rearToFront => 1#8) = some path := by cases path <;> rfl
    exact request_answer hp rfl (setPathGain_taken hpath hgain hdelay)
  case same => exact request_answer hp rfl (setIntercomMode_same (modeOf_code hmode) h)
  case other =>
    refine request_answer hp rfl ((setIntercomMode_other (modeOf_code hmode) h).trans ?_)
    rw [Intercom.enterMode_other hhalf, decide_eq_false hhalf]
    rfl
  case unheld =>
    refine request_answer hp rfl ((setIntercomMode_other (modeOf_code hmode) h).trans ?_)
    rw [Intercom.enterMode_half hhalf, hfloor, Bool.and_comm]
    rfl
  case held =>
    refine request_answer hp rfl ((setIntercomMode_other (modeOf_code hmode) h).trans ?_)
    rw [Intercom.enterMode_half hhalf, Option.isSome_iff_ne_none.mpr hfloor, decide_eq_true hhalf]
    rfl
  case gates =>
    dsimp only
    rw [State.settleGates_path]
    exact ⟨fun h => gateAfter_active h _, fun h hgate hdelay => (gateAfter_released h hgate).trans (if_neg hdelay),
      fun h hgate hdelay => (gateAfter_released h hgate).trans (if_pos hdelay), gateAfter_kept⟩
  case front | rear =>
    rw [State.factors_eq]
    rfl

/-! ## The talk keys and the floor (R169 to R175) -/

section Keys

variable {s : State} {c : Intercom} {side : TalkSide}

theorem talkKeyPress_pressed (h : s.intercom.keys.get side = true) : talkKeyPress side s = s := if_pos h

theorem talkKeyRelease_released (h : s.intercom.keys.get side = false) : talkKeyRelease side s = s :=
  if_neg (by rw [h]; nofun)

theorem talkKeyPress_half (hkey : s.intercom.keys.get side = false) (hmode : s.intercom.mode = .halfDuplex) :
    talkKeyPress side s = ((s.setIntercom ((s.intercom.setKey side true).press side).1).raiseIf
      ((s.intercom.setKey side true).press side).2 .talkFloor).settleGates := by
  have hset : (s.intercom.setKey side true).mode = .halfDuplex := hmode
  simp only [talkKeyPress, hkey, hset]
  rfl

theorem talkKeyPress_plain (hkey : s.intercom.keys.get side = false)
    (hmode : s.intercom.mode = .fullDuplex ∨ s.intercom.mode = .closed ∧ side = .driver) :
    talkKeyPress side s = s.setIntercom (s.intercom.setKey side true) := by
  obtain hmode | ⟨hmode, rfl⟩ := hmode
  · have hset : (s.intercom.setKey side true).mode = .fullDuplex := hmode
    simp only [talkKeyPress, hkey, hset]
    rfl
  · have hset : (s.intercom.setKey .driver true).mode = .closed := hmode
    simp only [talkKeyPress, hkey, hset]
    rfl

theorem talkKeyPress_call (hkey : s.intercom.keys.rear = false) (hmode : s.intercom.mode = .closed) :
    talkKeyPress .rear s = (((s.setIntercom (s.intercom.setKey .rear true)).requestTone .front .call).raise
      .rearCall).settleGates := by
  have hset : (s.intercom.setKey .rear true).mode = .closed := hmode
  have hget : s.intercom.keys.get .rear = false := hkey
  simp only [talkKeyPress, hget, hset]
  rfl

theorem Intercom.press_free (h : c.floor = none) : c.press side = (c.grant side none, true) := by
  simp only [Intercom.press, h]

theorem otherSide_ne (side : TalkSide) : otherSide side ≠ side := by cases side <;> nofun

theorem Intercom.press_claims (h : c.floor = some (otherSide side)) (hclaim : side = .rear ∨ c.override = false) :
    c.press side = ({ c with claimant := some side }, false) := by
  have hno : ¬(side = .driver ∧ c.override = true) := by
    rintro ⟨rfl, ho⟩
    obtain h | h := hclaim
    · cases h
    · rw [h] at ho
      cases ho
  simp only [Intercom.press, h, if_neg (otherSide_ne side), if_neg hno]

theorem Intercom.press_overrides (h : c.floor = some .rear) (ho : c.override = true) :
    c.press .driver = (c.grant .driver c.overridden, true) := by
  simp only [Intercom.press, h, ho]
  rfl

theorem talkKeyRelease_other (hkey : s.intercom.keys.get side = true) (h : s.intercom.floor ≠ some side) :
    talkKeyRelease side s = s.setIntercom (s.intercom.setKey side false) := by
  rw [talkKeyRelease, if_pos hkey]
  exact if_neg h

theorem talkKeyRelease_holder (hkey : s.intercom.keys.get side = true) (h : s.intercom.floor = some side) :
    talkKeyRelease side s = ((s.setIntercom (s.intercom.setKey side false).release).raise .talkFloor).settleGates := by
  rw [talkKeyRelease, if_pos hkey]
  exact if_pos h

/-- The floor passes to a claimant whose key is pressed (R171). -/
theorem Intercom.release_grants (h : c.claimant = some side) (hkey : c.keys.get side = true) :
    c.release = c.grant side none := by
  have hheir : c.heir = some side := by simp only [Intercom.heir, h, if_pos hkey]
  simp only [Intercom.release, hheir]

theorem Intercom.release_drops (h : c.claimant = none ∨ ∃ side, c.claimant = some side ∧ c.keys.get side = false) :
    c.release = c.dropFloor := by
  have hheir : c.heir = none := by
    obtain h | ⟨side, h, hkey⟩ := h
    · simp only [Intercom.heir, h]
    · simp only [Intercom.heir, h, hkey]
      rfl
  simp only [Intercom.release, hheir]

theorem Intercom.setKey_otherSide (c : Intercom) (side : TalkSide) (pressed : Bool) :
    (c.setKey side pressed).keys.get (otherSide side) = c.keys.get (otherSide side) :=
  (c.setKey_other (otherSide_ne side) pressed).2

theorem floorTimerExpiry_running (h : s.intercom.floorTimer ≠ some 0) : floorTimerExpiry s = s := if_neg h

theorem floorTimerExpiry_out (h : s.intercom.floorTimer = some 0) :
    floorTimerExpiry s = ((s.setIntercom s.intercom.release).raise .talkFloor).settleGates := if_pos h

end Keys

/-- Settles O44: each press, each release and the floor timer, by who holds and who claims the floor. -/
theorem floorMovesWithTheKeys : Obligations.FloorMovesWithTheKeys := by
  unfold Obligations.FloorMovesWithTheKeys
  intro moved
  refine ⟨fun s side hp hkey hmode => ⟨fun hfloor => ?free, fun hfloor hclaim => ?claims, fun hfloor hside ho => ?overrides⟩,
    fun s hp hkey hmode => event_next hp (talkKeyPress_call hkey hmode),
    fun s side hp hkey => ⟨fun h => event_next hp (talkKeyRelease_other hkey h), fun h hclaimant hother => ?passes,
      fun h hclaimant => ?drops⟩,
    fun s side hp hkey hmode => event_next hp (talkKeyPress_plain hkey hmode),
    fun s side hp => ⟨fun h => event_next hp (talkKeyPress_pressed h), fun h => event_next hp (talkKeyRelease_released h)⟩,
    fun s hp h => event_next hp (floorTimerExpiry_running h),
    fun s hp h => ⟨fun side hclaimant hkey => ?expiryPasses, fun hclaimant => ?expiryDrops⟩⟩
  case free =>
    refine event_next hp ((talkKeyPress_half hkey hmode).trans ?_)
    rw [Intercom.press_free (c := s.intercom.setKey side true) hfloor]
    rfl
  case claims =>
    refine event_next hp ((talkKeyPress_half hkey hmode).trans ?_)
    rw [Intercom.press_claims (c := s.intercom.setKey side true) hfloor hclaim]
    rfl
  case overrides =>
    subst hside
    refine event_next hp ((talkKeyPress_half hkey hmode).trans ?_)
    rw [Intercom.press_overrides (c := s.intercom.setKey .driver true) hfloor ho]
    rfl
  case passes =>
    refine event_next hp ((talkKeyRelease_holder hkey h).trans ?_)
    rw [Intercom.release_grants (c := s.intercom.setKey side false) hclaimant
      ((Intercom.setKey_otherSide _ _ _).trans hother)]
    rfl
  case drops =>
    refine event_next hp ((talkKeyRelease_holder hkey h).trans ?_)
    rw [Intercom.release_drops (c := s.intercom.setKey side false)
      (hclaimant.imp_right fun ⟨hother, hreleased⟩ => ⟨_, hother, (Intercom.setKey_otherSide _ _ _).trans hreleased⟩)]
    rfl
  case expiryPasses =>
    refine event_next hp ((floorTimerExpiry_out h).trans ?_)
    rw [Intercom.release_grants hclaimant hkey]
    rfl
  case expiryDrops =>
    refine event_next hp ((floorTimerExpiry_out h).trans ?_)
    rw [Intercom.release_drops hclaimant]
    rfl

end Sys2Proof.Machine
end


section
/-! Codec frames and tones (R159, R160, R162, R166, R176 to R180). -/

namespace Sys2Proof.Machine

/-! ## The five tones, frame by frame (R176) -/

theorem segmentsSample_in {g : ToneSegment} {i : Nat} (gs : List ToneSegment) (h : i < g.frames) :
    segmentsSample (g :: gs) i = segmentSample g i := if_pos h

theorem segmentsSample_past {g : ToneSegment} {i : Nat} (gs : List ToneSegment) (h : g.frames ≤ i) :
    segmentsSample (g :: gs) i = segmentsSample gs (i - g.frames) := if_neg (Nat.not_lt.mpr h)

/-- A sample of a beep of a half period. -/
def beepSample (half n : Nat) : Int := if n / half % 2 = 0 then 8192 else -8192

theorem segmentSample_beep {half : Nat} (h : half ≠ 0) (frames i : Nat) : segmentSample ⟨half, frames⟩ i = beepSample half i :=
  if_neg h

theorem toneSample_call {i : Nat} (h : i < 6400) : toneSample .call i =
    if i < 2400 then beepSample 8 i else if i < 4000 then 0 else beepSample 8 (i - 4000) := by
  show segmentsSample [⟨8, 2400⟩, ⟨0, 1600⟩, ⟨8, 2400⟩] i = _
  split
  · next hfirst => exact segmentsSample_in _ hfirst
  split
  · next hfirst hgap =>
    rw [segmentsSample_past _ (Nat.not_lt.mp hfirst), segmentsSample_in _ (by show i - 2400 < 1600; omega)]
    rfl
  · next hfirst hgap =>
    rw [segmentsSample_past _ (Nat.not_lt.mp hfirst), segmentsSample_past _ (by show 1600 ≤ i - 2400; omega),
      segmentsSample_in _ (by show i - 2400 - 1600 < 2400; omega), Nat.sub_sub]
    rfl

theorem toneSample_start {i : Nat} (h : i < 1280) : toneSample .start i = beepSample 4 i := segmentsSample_in _ h

theorem toneSample_approved {i : Nat} (h : i < 4000) :
    toneSample .approved i = if i < 1600 then beepSample 16 i else beepSample 8 (i - 1600) := by
  show segmentsSample [⟨16, 1600⟩, ⟨8, 2400⟩] i = _
  split
  · next hfirst => exact segmentsSample_in _ hfirst
  · next hfirst =>
    rw [segmentsSample_past _ (Nat.not_lt.mp hfirst), segmentsSample_in _ (by show i - 1600 < 2400; omega)]
    rfl

theorem toneSample_declined {i : Nat} (h : i < 6400) : toneSample .declined i = beepSample 32 i := segmentsSample_in _ h

/-- Beeps and gaps of 1,600 frames alternate. -/
theorem toneSample_expired {i : Nat} (h : i < 8000) :
    toneSample .expired i = if i / 1600 % 2 = 0 then beepSample 16 (i % 1600) else 0 := by
  obtain ⟨k, r, hk, hr, rfl⟩ : ∃ k r, k < 5 ∧ r < 1600 ∧ i = r + 1600 * k := ⟨i / 1600, i % 1600, by omega, by omega, by omega⟩
  have hdiv : (r + 1600 * k) / 1600 = k := by omega
  have hmod : (r + 1600 * k) % 1600 = r := by omega
  have past : ∀ (gs : List ToneSegment) (half n : Nat),
      segmentsSample (⟨half, 1600⟩ :: gs) (r + 1600 * (n + 1)) = segmentsSample gs (r + 1600 * n) := by
    intro gs half n
    rw [segmentsSample_past _ (by show 1600 ≤ _; omega)]
    exact congrArg (segmentsSample gs) (by show r + 1600 * (n + 1) - 1600 = _; omega)
  have here : ∀ (gs : List ToneSegment) (half : Nat),
      segmentsSample (⟨half, 1600⟩ :: gs) (r + 1600 * 0) = segmentSample ⟨half, 1600⟩ r :=
    fun gs half => segmentsSample_in gs hr
  have hsegments : toneSegments .expired = [⟨16, 1600⟩, ⟨0, 1600⟩, ⟨16, 1600⟩, ⟨0, 1600⟩, ⟨16, 1600⟩] := rfl
  rw [hdiv, hmod, toneSample, hsegments]
  obtain rfl | rfl | rfl | rfl | rfl : k = 0 ∨ k = 0 + 1 ∨ k = 0 + 1 + 1 ∨ k = 0 + 1 + 1 + 1 ∨ k = 0 + 1 + 1 + 1 + 1 := by omega
  · rw [here]
    rfl
  · rw [past, here]
    rfl
  · rw [past, past, here]
    rfl
  · rw [past, past, past, here]
    rfl
  · rw [past, past, past, past, here]
    rfl

/-! ## Tone requests (R177, R180) -/

section Requests

variable {x : Speaker} {t : Tone}

theorem Speaker.outcome_idle (h : x.playing = none) : x.outcome t = .started := by simp [Speaker.outcome, h]

theorem Speaker.outcome_merged (h : x.playing ≠ none) (hin : t ∈ x.waiting) : x.outcome t = .merged := by
  simp [Speaker.outcome, h, hin]

theorem Speaker.outcome_queued (h : x.playing ≠ none) (hout : t ∉ x.waiting) (hroom : x.waiting.length < 4) :
    x.outcome t = .queued := by
  simp [Speaker.outcome, h, hout, hroom]

theorem Speaker.outcome_dropped (h : x.playing ≠ none) (hout : t ∉ x.waiting) (hfull : 4 ≤ x.waiting.length) :
    x.outcome t = .dropped := by
  simp [Speaker.outcome, h, hout, hfull]

theorem Speaker.take_idle (h : x.playing = none) : x.take t = { x with playing := some { tone := t, given := 0 } } := by
  rw [Speaker.take, Speaker.outcome_idle h]

theorem Speaker.take_merged (h : x.playing ≠ none) (hin : t ∈ x.waiting) : x.take t = x := by
  rw [Speaker.take, Speaker.outcome_merged h hin]

theorem Speaker.take_queued (h : x.playing ≠ none) (hout : t ∉ x.waiting) (hroom : x.waiting.length < 4) :
    x.take t = { x with waiting := x.waiting ++ [t] } := by
  rw [Speaker.take, Speaker.outcome_queued h hout hroom]

theorem Speaker.take_dropped (h : x.playing ≠ none) (hout : t ∉ x.waiting) (hfull : 4 ≤ x.waiting.length) :
    x.take t = { x with drops := min 65535 (x.drops + 1) } := by
  rw [Speaker.take, Speaker.outcome_dropped h hout hfull]
  rfl

theorem toneOf_code {b : Byte} (h : b.toNat = toneCode t) : toneOf b = some t := by
  unfold toneOf
  rw [h]
  cases t <;> rfl

theorem speakerOf_code {b : Byte} {side : CodecSide} (h : b.toNat = (match side with | .front => 0 | .rear => 1)) :
    speakerOf b = some side := by
  unfold speakerOf
  rw [h]
  cases side <;> rfl

/-- PLAY_TONE's answer to an outcome other than a drop: its code and the tones waiting. -/
theorem playTone_taken {s : State} {tone speaker : Byte} {side : CodecSide} {y : Speaker} {code : Nat}
    (htone : toneOf tone = some t) (hside : speakerOf speaker = some side)
    (hcode : (s.intercom.speakers.get side).outcome t = .started ∧ code = 0 ∨
      (s.intercom.speakers.get side).outcome t = .queued ∧ code = 1 ∨
      (s.intercom.speakers.get side).outcome t = .merged ∧ code = 2)
    (hy : (s.intercom.speakers.get side).take t = y) : playTone tone speaker s =
      ⟨State.settleGates { s with intercom := { s.intercom with speakers := s.intercom.speakers.set side y } }, .ok,
        u8 code ++ u8 y.waiting.length⟩ := by
  obtain ⟨h, rfl⟩ | ⟨h, rfl⟩ | ⟨h, rfl⟩ := hcode <;>
    simp only [playTone, htone, hside, State.requestTone, hy, h]

theorem playTone_full {s : State} {tone speaker : Byte} {side : CodecSide} {y : Speaker}
    (htone : toneOf tone = some t) (hside : speakerOf speaker = some side)
    (h : (s.intercom.speakers.get side).outcome t = .dropped) (hy : (s.intercom.speakers.get side).take t = y) :
    playTone tone speaker s =
      ⟨State.settleGates { s with intercom := { s.intercom with speakers := s.intercom.speakers.set side y } }, .full,
        u16 y.drops⟩ := by
  simp only [playTone, htone, hside, State.requestTone, hy, h]

end Requests

/-! ## Codec frames (R159, R160, R162, R166, R178) -/

section Frames

variable {x : Speaker} {l : AudioLine}

theorem Speaker.lastFrame_iff {y : Playing} (h : x.playing = some y) : x.lastFrame = true ↔ toneFrames y.tone ≤ y.given + 1 := by
  simp only [Speaker.lastFrame, h, decide_eq_true_iff]

theorem Speaker.advance_goesOn {y : Playing} (h : x.playing = some y) (hmore : y.given + 1 < toneFrames y.tone) :
    x.advance = { x with playing := some { y with given := y.given + 1 } } := by
  rw [Speaker.advance, if_neg (mt (Speaker.lastFrame_iff h).mp (Nat.not_le.mpr hmore)), h]

theorem Speaker.advance_ends {y : Playing} (h : x.playing = some y) (hlast : toneFrames y.tone ≤ y.given + 1) :
    x.advance = x.endTone := if_pos ((Speaker.lastFrame_iff h).mpr hlast)

/-- R178: the oldest waiting tone starts, or the speaker becomes idle. -/
theorem Speaker.endTone_eq (x : Speaker) : x.endTone = { x with
    playing := x.waiting.head?.map (fun w => { tone := w, given := 0 }), waiting := x.waiting.tail } := by
  obtain ⟨playing, waiting, drops, output⟩ := x
  cases waiting <;> rfl

theorem speakerSample_tone {y : Playing} (h : x.playing = some y) : speakerSample x l = toneSample y.tone y.given := by
  simp only [speakerSample, h]

theorem speakerSample_line {v : Int} (h : x.playing = none) (hgate : l.gate = .passing) (hheld : l.held = some v) :
    speakerSample x l = max (-32768) (min 32767 ((v * l.gain + 128) / 256)) := by
  simp only [speakerSample, h, if_pos hgate, AudioLine.sample, hheld]
  rfl

theorem speakerSample_unheld (h : x.playing = none) (hgate : l.gate = .passing) (hheld : l.held = none) :
    speakerSample x l = 0 := by
  simp only [speakerSample, h, if_pos hgate, AudioLine.sample, hheld]

theorem speakerSample_muted (h : x.playing = none) (hgate : l.gate ≠ .passing) : speakerSample x l = 0 := by
  simp only [speakerSample, h, if_neg hgate]

theorem State.settleGates_held (s : State) (q : AudioPath) :
    (s.settleGates.intercom.paths.get q).held = (s.intercom.paths.get q).held := by
  rw [State.settleGates_path, gateAfter_rest]

theorem codecFrame_cases (side : CodecSide) (mic : BitVec 16) (s : State) :
    codecFrame side mic s = (s.setIntercom (s.intercom.frame side mic)).settleGates ∨
    codecFrame side mic s = s.setIntercom (s.intercom.frame side mic) := by
  unfold codecFrame
  split
  · exact .inl rfl
  · exact .inr rfl

/-- What a codec frame leaves, whether its gates are settled or not. -/
theorem codecFrame_rest (side : CodecSide) (mic : BitVec 16) (s : State) {t : State} (ht : codecFrame side mic s = t) :
    t.intercom.codecs = (s.intercom.frame side mic).codecs ∧ t.intercom.speakers = (s.intercom.frame side mic).speakers ∧
    (∀ q, (t.intercom.paths.get q).held = ((s.intercom.frame side mic).paths.get q).held) ∧
    t.meas = s.meas ∧ t.table = s.table ∧ t.pay = s.pay ∧ t.notices = s.notices ∧ t.shift = s.shift := by
  subst ht
  obtain h | h := codecFrame_cases side mic s <;> rw [h]
  · exact ⟨State.settleGates_codecs _, State.settleGates_speakers _, State.settleGates_held _, rfl, rfl, rfl, rfl, rfl⟩
  · exact ⟨rfl, rfl, fun _ => rfl, rfl, rfl, rfl, rfl, rfl⟩

theorem Intercom.frame_speaker (c : Intercom) (side : CodecSide) (mic : BitVec 16) :
    (c.frame side mic).speakers.get side = (c.speakers.get side).frame (c.paths.get (pathTo side)) := by
  cases side <;> rfl

theorem Intercom.frame_frames (c : Intercom) (side : CodecSide) (mic : BitVec 16) :
    ((c.frame side mic).codecs.get side).frames = min 65535 ((c.codecs.get side).frames + 1) := by
  cases side <;> rfl

theorem Intercom.frame_held (c : Intercom) (side : CodecSide) (mic : BitVec 16) :
    ((c.frame side mic).paths.get (pathFrom side)).held = some mic.toInt ∧
    ((c.frame side mic).paths.get (pathTo side)).held = none := by
  cases side <;> exact ⟨rfl, rfl⟩

theorem toneEnd_last {side : CodecSide} {mic : BitVec 16} {s : State}
    (h : (s.intercom.speakers.get side).lastFrame = true) : toneEnd side mic s = codecFrame side mic s := if_pos h

end Frames

/-- Settles O45: a frame's sample and what it leaves, the tone requests, and the tones. -/
theorem framesAndTonesArePlayed : Obligations.FramesAndTonesArePlayed := by
  refine ⟨fun s side mic hp => ⟨codecFrame side mic s, event_next hp rfl, ?frame⟩,
    fun s tone speaker t side hp htone hspeaker => ⟨fun h => ?started, fun h hin => ?merged, fun h hout hroom => ?queued,
      fun h hout hfull => ?dropped⟩,
    fun s side t => ⟨rfl, Speaker.take_idle, Speaker.take_merged, Speaker.take_queued, Speaker.take_dropped⟩,
    ⟨rfl, rfl, rfl, rfl, rfl⟩,
    fun i => ⟨toneSample_call, toneSample_start, toneSample_approved, toneSample_declined, toneSample_expired⟩⟩
  case frame =>
    obtain ⟨hcodecs, hspeakers, hheld, hrest⟩ := codecFrame_rest side mic s rfl
    obtain ⟨hfrom, hto⟩ := s.intercom.frame_held side mic
    rw [hcodecs, hspeakers, hheld, hheld, Intercom.frame_frames, Intercom.frame_speaker]
    refine ⟨rfl, hfrom, hto, fun y => speakerSample_tone, fun v => speakerSample_line, speakerSample_unheld,
      speakerSample_muted, fun y hy hmore => ?goesOn, fun y hy hlast => ?ends, hrest⟩
    case goesOn =>
      rw [Speaker.frame, Speaker.advance_goesOn hy hmore]
      exact ⟨rfl, rfl⟩
    case ends =>
      rw [Speaker.frame, Speaker.advance_ends hy hlast, Speaker.endTone_eq]
      exact ⟨event_next hp (toneEnd_last ((Speaker.lastFrame_iff hy).mpr hlast)), rfl, rfl⟩
  case started =>
    exact request_answer hp rfl (playTone_taken (toneOf_code htone) (speakerOf_code hspeaker)
      (.inl ⟨Speaker.outcome_idle h, rfl⟩) (Speaker.take_idle h))
  case merged =>
    exact request_answer hp rfl (playTone_taken (toneOf_code htone) (speakerOf_code hspeaker)
      (.inr (.inr ⟨Speaker.outcome_merged h hin, rfl⟩)) (Speaker.take_merged h hin))
  case queued =>
    refine request_answer hp rfl ((playTone_taken (toneOf_code htone) (speakerOf_code hspeaker)
      (.inr (.inl ⟨Speaker.outcome_queued h hout hroom, rfl⟩)) (Speaker.take_queued h hout hroom)).trans ?_)
    rw [List.length_append, List.length_singleton]
  case dropped =>
    exact request_answer hp rfl (playTone_full (toneOf_code htone) (speakerOf_code hspeaker)
      (Speaker.outcome_dropped h hout hfull) (Speaker.take_dropped h hout hfull))

end Sys2Proof.Machine
end


section
/-! Notices, the route table and the message queues (R183 to R193). -/

namespace Sys2Proof.Machine

/-! ## The routes of the sources (R183) -/

theorem Notices.route_eq {src : NoticeSource} {i : Fin 20} (h : routeIndex src.number = some i) (n : Notices) :
    n.route src = n.routes[i] := by
  simp only [Notices.route, h]

/-- Every source but MESSAGE has its place in the route table. -/
theorem NoticeSource.routed {src : NoticeSource} (h : src ≠ .message) :
    ∃ i : Fin 20, routeIndex src.number = some i ∧ i.val + (if src.number < 15 then 1 else 2) = src.number := by
  cases src
  case message => exact absurd rfl h
  all_goals exact ⟨_, rfl, rfl⟩

theorem routeIndex_none {n : Nat} (h : n < 1 ∨ n = 15 ∨ 21 < n) : routeIndex n = none := by
  obtain rfl | rfl | ⟨m, rfl⟩ : n = 0 ∨ n = 15 ∨ ∃ m, n = m + 22 := by
    obtain h | h | h := h
    · exact .inl (by omega)
    · exact .inr (.inl h)
    · exact .inr (.inr ⟨n - 22, by omega⟩)
  all_goals rfl

/-! ## The pending set and the lines (R185, R186) -/

section Pending

variable (s : State) (p : Port)

theorem State.levelHolds_lampFault : s.levelHolds .lampFault = true ↔ ∃ i : Fin 4, (s.sign.lamps[i]).latch = true := by
  show s.sign.anyLatch = true ↔ _
  rw [Sign.anyLatch, Vector.toList_eq_map, List.any_map, List.any_eq_true]
  simp

theorem State.pendingSet_pulse {k : Nat} (h : k < 16) :
    (s.pendingSet p).getLsbD k = (s.notices.ports.get p).pulses.getLsbD k := by
  rw [State.pendingSet, BitVec.getLsbD_append, if_pos h]

/-- The bits of five flags by their weights. -/
theorem flags_getLsbD (a b c d e : Bool) :
    let w := BitVec.ofNat 5 ((if a then 1 else 0) + (if b then 2 else 0) + (if c then 4 else 0) + (if d then 8 else 0) +
      (if e then 16 else 0))
    w.getLsbD 0 = a ∧ w.getLsbD 1 = b ∧ w.getLsbD 2 = c ∧ w.getLsbD 3 = d ∧ w.getLsbD 4 = e := by
  revert a b c d e
  decide

theorem State.pendingSet_level {src : NoticeSource} (h : src ∈ levelSources) :
    (s.pendingSet p).getLsbD (src.number - 1) = (s.levelHolds src && (s.notices.route src).has p) := by
  have hbits := flags_getLsbD (s.levelPending p .journalNearFull) (s.levelPending p .journalFull)
    (s.levelPending p .lampFault) (s.levelPending p .audioRateFault) (s.levelPending p .clockInvalid)
  obtain ⟨hnear, hfull, hlamp, hrate, hclock⟩ := hbits
  simp only [levelSources, List.mem_cons, List.not_mem_nil, or_false] at h
  obtain rfl | rfl | rfl | rfl | rfl := h <;>
    rw [State.pendingSet, BitVec.getLsbD_append, if_neg (by decide)]
  · exact hnear
  · exact hfull
  · exact hlamp
  · exact hrate
  · exact hclock

variable {s p}

theorem State.noticeLine_iff (hp : s.powered = true) :
    s.noticeLine p = true ↔ s.pendingSet p &&& (s.notices.ports.get p).enabled ≠ 0 := by
  rw [State.noticeLine, hp, Bool.true_and, decide_eq_true_iff]

theorem State.readyLine_iff (hp : s.powered = true) : s.readyLine p = true ↔ (s.ports.get p).reply ≠ none := by
  rw [State.readyLine, hp, Bool.true_and, Option.isSome_iff_ne_none]

end Pending

/-! ## Reading, clearing and enabling (R187 to R189) -/

section Requests

variable {s : State} {p : Port} {w : BitVec 32}

theorem noticeResults_eq (hp : s.powered = true) : noticeResults s p =
    u32 (s.pendingSet p).toNat ++ u32 (s.notices.ports.get p).enabled.toNat ++
      u8 (if s.pendingSet p &&& (s.notices.ports.get p).enabled = 0 then 0 else 1) ++
      u8 (s.notices.ports.get p).messages.length ++
      levelSources.flatMap (fun src => u8 (if s.levelHolds src then 1 else 0)) := by
  have hline : yesNo (s.noticeLine p) = u8 (if s.pendingSet p &&& (s.notices.ports.get p).enabled = 0 then 0 else 1) := by
    rw [yesNo, ite_of_iff (State.noticeLine_iff hp), ite_not]
  rw [noticeResults, hline]
  rfl

theorem sourceSetOf_eq (h : w.toNat < 2 ^ 21) : sourceSetOf w = some (w.setWidth 21) := if_pos h

theorem clearNotices_taken (h : w.toNat < 2 ^ 21) {t : State} (ht : s.setNotices p { (s.notices.ports.get p) with
      pulses := (s.notices.ports.get p).pulses &&& ~~~(w.setWidth 16) } = t) :
    clearNotices p w s = ⟨t, .ok, u32 (t.pendingSet p).toNat⟩ := by
  have hset : (w.setWidth 21).setWidth 16 = w.setWidth 16 := BitVec.setWidth_setWidth_of_le w (by decide)
  simp only [clearNotices, sourceSetOf_eq h, hset, ht]

theorem setNoticeEnable_taken (h : w.toNat < 2 ^ 21) {t : State}
    (ht : s.setNotices p { (s.notices.ports.get p) with enabled := w.setWidth 21 } = t) :
    setNoticeEnable p w s = ⟨t, .ok, u32 w.toNat ++ u32 (t.pendingSet p).toNat⟩ := by
  have hset : (w.setWidth 21).toNat = w.toNat := by rw [BitVec.toNat_setWidth, Nat.mod_eq_of_lt h]
  simp only [setNoticeEnable, sourceSetOf_eq h, hset, ht]

end Requests

/-- Settles O46: what raising does, the three requests, the level sources and the lines. -/
theorem noticesAreRaisedAndCleared : Obligations.NoticesAreRaisedAndCleared := by
  refine ⟨fun s src p => ⟨?raised, (s.raise_rest src p).2, (s.raise_rest src p).1, rfl⟩,
    fun s p hp => ⟨?read, ?take, fun w hw => ⟨?clear, ?enable⟩⟩,
    fun s => ⟨decide_eq_true_iff, decide_eq_true_iff, s.levelHolds_lampFault, Bool.or_eq_true _ _ ▸ Iff.rfl, Iff.rfl, rfl⟩,
    fun s p => ⟨fun k => s.pendingSet_pulse p, fun src => s.pendingSet_level p,
      fun hp => ⟨State.noticeLine_iff hp, State.readyLine_iff hp⟩⟩, rfl, fun n src h => ?route⟩
  case raised =>
    rw [State.raise_port]
    split <;> rfl
  case read => exact request_answer hp (Port.every_has p) (congrArg (Answer.mk s .ok) (noticeResults_eq hp))
  case take => exact request_answer hp (Port.every_has p) (congrArg (Answer.mk _ .ok) (noticeResults_eq hp))
  case clear => exact request_answer hp (Port.every_has p) (clearNotices_taken hw rfl)
  case enable => exact request_answer hp (Port.every_has p) (setNoticeEnable_taken hw rfl)
  case route =>
    obtain ⟨i, hi, hnumber⟩ := NoticeSource.routed h
    exact ⟨i, n.route_eq hi, hnumber⟩

/-! ## The route table (R190, R191) -/

theorem setRoute_taken {s : State} {source ports : Byte} {i : Fin 20} {given : PortSet}
    (hi : routeIndex source.toNat = some i) (hports : portSetOf ports = some given) : setRoute source ports s =
      ⟨{ s with notices := { s.notices with
          routes := s.notices.routes.set i (PortSet.union given mandatoryMinimums[i]) } },
        if PortSet.diff mandatoryMinimums[i] given = PortSet.empty then .ok else .clamped,
        u8 (if PortSet.diff mandatoryMinimums[i] given = PortSet.empty then 0 else 1) ++
          u8 (portSetCode (PortSet.diff mandatoryMinimums[i] given)) ++ u8 (portSetCode s.notices.routes[i]) ++
          u8 (portSetCode (PortSet.union given mandatoryMinimums[i]))⟩ := by
  simp only [setRoute, hi, hports, presence_one, decide_eq_true_eq, ite_not, ne_eq]

theorem setRoute_range {s : State} {source ports : Byte}
    (h : source.toNat < 1 ∨ source.toNat = 15 ∨ 21 < source.toNat ∨ 8 ≤ ports.toNat) :
    setRoute source ports s = refuse s .range := by
  by_cases hports : 8 ≤ ports.toNat
  · have hnone : portSetOf ports = none := if_neg (Nat.not_lt.mpr hports)
    rw [setRoute, hnone]
    cases routeIndex source.toNat <;> rfl
  · rw [setRoute, routeIndex_none (by omega)]

/-! ## The message queues (R192, R193) -/

section Messages

variable {s : State} {p q : Port} {target : Byte} {text : List Byte}

theorem textOk_iff : textOk text = true ↔
    1 ≤ text.length ∧ text.length ≤ 32 ∧ ∀ c ∈ text, 32 ≤ c.toNat ∧ c.toNat ≤ 126 := by
  simp [textOk, and_assoc]

theorem postMessage_checked (htarget : portOf target = some q) (hport : q ≠ p) (htext : textOk text = true) :
    postMessage p target text s = if 4 ≤ (s.notices.ports.get q).messages.length then refuse s .full else
      ⟨s.setNotices q (PortNotices.add { (s.notices.ports.get q) with
          messages := (s.notices.ports.get q).messages ++ [{ sender := p, text := text }] } .message), .ok,
        u8 ((s.notices.ports.get q).messages.length + 1)⟩ := by
  simp only [postMessage, htarget, if_neg hport, htext]
  rfl

theorem portOf_none (h : 2 < target.toNat) : portOf target = none := by
  rw [portOf, if_neg (by omega), if_neg (by omega), if_neg (by omega)]

theorem postMessage_range (h : 2 < target.toNat ∨ target.toNat = portCode p ∨ textOk text = false) :
    postMessage p target text s = refuse s .range := by
  obtain h | h | h := h
  · simp only [postMessage, portOf_none h]
  · simp only [postMessage, portOf_code h, if_true]
  · simp only [postMessage, if_pos h]
    cases portOf target with
    | none => rfl
    | some q => exact ite_self _

theorem textOk_false (h : text.length < 1 ∨ 32 < text.length ∨ ∃ c ∈ text, c.toNat < 32 ∨ 126 < c.toNat) :
    textOk text = false := by
  refine Bool.eq_false_iff.mpr fun hok => ?_
  obtain ⟨hlow, hhigh, hall⟩ := textOk_iff.mp hok
  obtain h | h | ⟨c, hc, hout⟩ := h
  · omega
  · omega
  · have := hall c hc
    omega

theorem takeMessage_empty (h : (s.notices.ports.get p).messages = []) : takeMessage p s = refuse s .unknown := by
  simp only [takeMessage, h]

theorem takeMessage_oldest {m : Message} {rest : List Message} (h : (s.notices.ports.get p).messages = m :: rest) :
    takeMessage p s = ⟨s.setNotices p { (s.notices.ports.get p) with messages := rest }, .ok,
      u8 (portCode m.sender) ++ (u8 m.text.length ++ m.text) ++ u8 rest.length⟩ := by
  simp only [takeMessage, h, counted, List.flatMap_singleton']

end Messages

/-- Settles O47: each request's outcomes, and the rows of R183. -/
theorem routesAndMessagesAreKept : Obligations.RoutesAndMessagesAreKept := by
  refine ⟨fun s source ports i hp hi hports => request_answer hp rfl (setRoute_taken hi (if_pos hports)),
    fun s p q target text hp htarget hport hlow hhigh hall => ⟨fun h => ?posted, fun h => ?full⟩,
    fun s p m rest hp h => request_answer hp (Port.every_has p) (takeMessage_oldest h),
    fun s source ports hp h => request_refused hp rfl (setRoute_range h), fun s p target text hp h => ?range,
    fun s p hp h => request_refused hp (Port.every_has p) (takeMessage_empty h), ?rows⟩
  case posted =>
    exact request_answer hp (Port.every_has p) ((postMessage_checked (portOf_code htarget) hport
      (textOk_iff.mpr ⟨hlow, hhigh, hall⟩)).trans (if_neg (Nat.not_le.mpr h)))
  case full =>
    exact request_refused hp (Port.every_has p) ((postMessage_checked (portOf_code htarget) hport
      (textOk_iff.mpr ⟨hlow, hhigh, hall⟩)).trans (if_pos h))
  case range =>
    exact request_refused hp (Port.every_has p) (postMessage_range (h.imp_right (Or.imp_right textOk_false)))
  case rows =>
    refine ⟨?_, ?_, ?_, ?_, ?_, ?_, ?_, ?_, ?_, ?_, ?_, ?_, ?_, ?_, ?_, ?_, ?_, ?_, ?_, ?_, rfl, rfl⟩ <;>
      exact ⟨rfl, _, rfl, rfl, rfl, fun _ => rfl⟩

end Sys2Proof.Machine
end


section
/-! The port frames (R195 to R198, R203): how a selection is judged, the parameters that each kind takes, and the reply
reads. -/

namespace Sys2Proof.Machine

/-! ## The number that bytes carry, in its bytes (R201) -/

theorem leNat_lt (l : List Byte) : leNat l < 2 ^ (8 * l.length) := by
  induction l with
  | nil => exact Nat.one_pos
  | cons b l ih =>
    have hb : b.toNat < 256 := b.isLt
    rw [leNat, List.length_cons, Nat.mul_succ, Nat.pow_add]
    omega

theorem leBytes_leNat (l : List Byte) : leBytes l.length (leNat l) = l := by
  induction l with
  | nil => rfl
  | cons b l ih =>
    have hb : b.toNat < 256 := b.isLt
    have hlow : BitVec.ofNat 8 (b.toNat + 256 * leNat l) = b :=
      BitVec.eq_of_toNat_eq (by rw [BitVec.toNat_ofNat]; omega)
    have hhigh : (b.toNat + 256 * leNat l) / 256 = leNat l := by omega
    rw [leNat, List.length_cons, leBytes, hlow, hhigh, ih]

theorem leBytes_word16 (a b : Byte) : leBytes 2 (word16 a b).toNat = [a, b] := by
  have hlt : leNat [a, b] < 2 ^ 16 := leNat_lt [a, b]
  rw [word16, BitVec.toNat_ofNat, Nat.mod_eq_of_lt hlt]
  exact leBytes_leNat [a, b]

theorem leBytes_word32 (a b c d : Byte) : leBytes 4 (word32 a b c d).toNat = [a, b, c, d] := by
  have hlt : leNat [a, b, c, d] < 2 ^ 32 := leNat_lt [a, b, c, d]
  rw [word32, BitVec.toNat_ofNat, Nat.mod_eq_of_lt hlt]
  exact leBytes_leNat [a, b, c, d]

theorem leBytes_fieldWord {fields : List Byte} (h : fields.length = 22) : leBytes 22 (fieldWord fields).toNat = fields := by
  have hlt : leNat fields < 2 ^ (8 * 22) := h ▸ leNat_lt fields
  rw [fieldWord, BitVec.toNat_ofNat, Nat.mod_eq_of_lt hlt, ← h]
  exact leBytes_leNat fields

/-! ## The parameters of each kind (R203) -/

/-- The parameter lengths of R203 in kind order; POST_MESSAGE, kind 59, has 1 or more. -/
def parameterLengths : List Nat :=
  [0, 2, 2, 0, 0, 2, 0, 25, 2, 3, 4, 1, 3, 2, 0, 1, 1, 1, 6, 2, 1, 0, 1, 1, 1, 1, 10, 1, 1, 15,
    5, 0, 4, 4, 0, 4, 0, 0, 2, 4, 2, 2, 0, 2, 4, 0, 0, 5, 1, 2, 1, 2, 0, 1, 4, 4, 0, 2, 0, 0]

/-- The parameter length of a kind. -/
def Kind.parameters (k : Kind) : Nat := parameterLengths.getD (k.code - 1) 0

/-- A request that a parameter block spells has those parameters again, and its kind's length of them. -/
theorem parseRequest_some {k : Kind} {p : Port} {params : List Byte} {c : Instr} (h : parseRequest k p params = some c) :
    c.request? = some (p, k, params) ∧ (k ≠ .postMessage → params.length = Kind.parameters k) := by
  cases k
  case tariffItem =>
    simp only [parseRequest] at h
    split at h
    · split at h
      · next hlength =>
        cases h
        exact ⟨by rw [Instr.request?, leBytes_fieldWord hlength], fun _ => congrArg (· + 1 + 1 + 1) hlength⟩
      · cases h
    · cases h
  case postMessage =>
    simp only [parseRequest] at h
    split at h
    · split at h
      · cases h
        exact ⟨rfl, fun hne => absurd rfl hne⟩
      · cases h
    · cases h
  all_goals
    simp only [parseRequest] at h
    split at h
    · cases h
      exact ⟨by simp only [Instr.request?, leBytes_word16, leBytes_word32, List.cons_append, List.nil_append], fun _ => rfl⟩
    · cases h

/-- A parameter block of its kind's length spells a request. -/
theorem parseRequest_isSome {k : Kind} (hk : k ≠ .postMessage) (p : Port) {params : List Byte}
    (h : params.length = Kind.parameters k) : (parseRequest k p params).isSome = true := by
  obtain ⟨f, rfl⟩ : ∃ f : Fin (Kind.parameters k) → Byte, params = List.ofFn f :=
    ⟨fun i => params[i.val], List.ext_getElem (by simp [h]) fun i _ _ => by simp⟩
  cases k
  case postMessage => exact absurd rfl hk
  all_goals rfl

theorem parseRequest_none {k : Kind} {p : Port} {params : List Byte} (hk : k ≠ .postMessage)
    (h : params.length ≠ Kind.parameters k) : parseRequest k p params = none :=
  Option.eq_none_iff_forall_ne_some.mpr fun _ hc => h ((parseRequest_some hc).2 hk)

theorem parseRequest_message {p : Port} {target : Byte} {text : List Byte} (h : text.length ≤ 59) :
    parseRequest .postMessage p (target :: text) = some (.postMessage p target text) := if_pos h

theorem Kind.code_le (k : Kind) : k.code ≤ 60 := by cases k <;> decide

theorem Kind.ofCode_none {n : Nat} (h : 60 < n) : Kind.ofCode n = none := by
  refine List.find?_eq_none.mpr fun k _ => ?_
  have := Kind.code_le k
  rw [beq_iff_eq]
  omega

theorem Kind.ofCode_some {n : Nat} (hlow : 1 ≤ n) (hhigh : n ≤ 60) : ∃ k, Kind.ofCode n = some k ∧ k.code = n := by
  have hall : ∀ m : Fin 60, (Kind.ofCode (m.val + 1)).isSome = true := by decide
  obtain ⟨k, hk⟩ := Option.isSome_iff_exists.mp (hall ⟨n - 1, by omega⟩)
  have hn : n - 1 + 1 = n := by omega
  rw [hn] at hk
  exact ⟨k, hk, beq_iff_eq.mp (List.find?_some (p := fun k : Kind => k.code == n) hk)⟩

theorem Kind.postMessage_iff (k : Kind) : k = .postMessage ↔ k.code = 59 := by cases k <;> decide

/-! ## How a selection is judged (R195 to R197) -/

section Judged

variable {p : Port} {kind len : Byte} {params frame : List Byte} {k : Kind}

theorem judgeSelection_write (hkind : kind ≠ 0#8) : judgeSelection (kind :: len :: params) =
    if 60 < len.toNat then .malformed kind
    else if params.length < len.toNat then .partialFrame
    else if params.length = len.toNat then .complete kind params
    else .malformed kind := if_neg hkind

/-- A malformed frame is answered FORMAT. -/
theorem decodeSelection_malformed (h : judgeSelection frame = .malformed kind) :
    answeredFormat p frame = true ∧ decodeSelection p frame = some (.formatReply p frame) := by
  simp only [answeredFormat, decodeSelection, h, and_self]

/-- A whole frame of an unknown kind is answered FORMAT. -/
theorem decodeSelection_unknown (h : judgeSelection frame = .complete kind params) (hk : Kind.ofCode kind.toNat = none) :
    answeredFormat p frame = true ∧ decodeSelection p frame = some (.formatReply p frame) := by
  simp only [answeredFormat, decodeSelection, h, hk, and_self]

/-- A whole frame of a wrong parameter length is answered FORMAT. -/
theorem decodeSelection_length (h : judgeSelection frame = .complete kind params) (hk : Kind.ofCode kind.toNat = some k)
    (hparse : parseRequest k p params = none) :
    answeredFormat p frame = true ∧ decodeSelection p frame = some (.formatReply p frame) := by
  simp only [answeredFormat, decodeSelection, h, hk, hparse, Option.isNone_none, and_self]

theorem decodeSelection_request (h : judgeSelection frame = .complete kind params) (hk : Kind.ofCode kind.toNat = some k)
    {c : Instr} (hparse : parseRequest k p params = some c) : decodeSelection p frame = some c := by
  simp only [decodeSelection, h, hk, hparse]

theorem decodeSelection_partial (h : judgeSelection frame = .partialFrame) :
    decodeSelection p frame = some (.frameDiscarded p frame) := by
  simp only [decodeSelection, h]

theorem decodeSelection_read (p : Port) (rest : List Byte) :
    decodeSelection p (0#8 :: rest) = some (.replyRead p rest.length) := by
  cases rest <;> rfl

end Judged

/-! ## The reply reads (R198) -/

theorem clockOut_part {frame : List Byte} {n : Nat} (h : n < frame.length) : clockOut frame n = frame.take n := by
  rw [clockOut, Nat.sub_eq_zero_of_le (Nat.le_of_lt h), List.replicate_zero, List.append_nil]

theorem clockOut_whole {frame : List Byte} {n : Nat} (h : frame.length ≤ n) :
    clockOut frame n = frame ++ List.replicate (n - frame.length) 0#8 := by
  rw [clockOut, List.take_of_length_le h]
  rfl

section Read

variable {b : PortBuffers} {n : Nat}

theorem PortBuffers.read_empty (h : b.reply = none) : b.read n = { b with
    dataOut := .bytes (([12#8, 0#8, 0#8, 0#8].take n) ++ List.replicate (n - 4) 0#8) } := by
  simp only [PortBuffers.read, h]
  rfl

theorem PortBuffers.read_part {r : Reply} (h : b.reply = some r) (hn : n < (r.frame.drop r.position).length) :
    b.read n = { b with
      reply := some { r with position := 0 }, dataOut := .bytes ((r.frame.drop r.position).take n) } := by
  simp only [PortBuffers.read, h, if_neg (Nat.not_le.mpr hn), clockOut_part hn]

theorem PortBuffers.read_whole {r : Reply} (h : b.reply = some r) (hn : (r.frame.drop r.position).length ≤ n) :
    b.read n = { b with
      reply := none, dataOut := .bytes (r.frame.drop r.position ++
        List.replicate (n - (r.frame.drop r.position).length) 0#8) } := by
  simp only [PortBuffers.read, h, if_pos hn, clockOut_whole hn]

end Read

theorem replyRead_eq {s : State} {p : Port} {n : Nat} {c : PortBuffers} (h : (s.ports.get p).read n = c) :
    replyRead p n s = { s with ports := s.ports.set p c } := by
  rw [replyRead, h]

theorem State.putReply_dataOut (s : State) (p : Port) (k : Nat) (st : Status) (res : List Byte) :
    ((s.putReply p k st res).ports.get p).dataOut = .zeros := by
  cases p <;> rfl

/-- Settles O48: the events of a port, and the judgement of every selection. -/
theorem selectionsAreTaken : Obligations.SelectionsAreTaken := by
  refine ⟨fun s p received hp => event_next hp rfl, fun s p received hp h => event_next hp (if_pos h),
    fun s p n hp => ⟨fun h => event_next hp (replyRead_eq (PortBuffers.read_empty h)), fun r hr =>
      ⟨fun h => event_next hp (replyRead_eq (PortBuffers.read_part hr h)),
        fun h => event_next hp (replyRead_eq (PortBuffers.read_whole hr h))⟩⟩,
    fun p => ⟨rfl, decodeSelection_read p, fun kind hkind => decodeSelection_partial (if_neg hkind),
      fun kind len params hkind => ?frame⟩, State.putReply_dataOut⟩
  case frame =>
    have hjudge := judgeSelection_write (len := len) (params := params) hkind
    have whole : params.length = len.toNat → len.toNat ≤ 60 →
        judgeSelection (kind :: len :: params) = .complete kind params := fun heq hlen => by
      rw [hjudge, if_neg (by omega), if_neg (by omega), if_pos heq]
    refine ⟨fun h => ?overlong, fun hlen h => ?short, fun h => ?long, fun heq h => ?unknown, fun heq hlen hlow hhigh => ?known⟩
    case overlong => exact decodeSelection_malformed (hjudge.trans (if_pos h))
    case short =>
      refine decodeSelection_partial ?_
      rw [hjudge, if_neg (by omega), if_pos h]
    case long =>
      refine decodeSelection_malformed (kind := kind) ?_
      rw [hjudge, if_neg (c := params.length < len.toNat) (by omega), if_neg (c := params.length = len.toNat) (by omega),
        ite_self]
    case unknown =>
      by_cases hlen : len.toNat ≤ 60
      · exact decodeSelection_unknown (whole heq hlen) (Kind.ofCode_none h)
      · exact decodeSelection_malformed (hjudge.trans (if_pos (by omega)))
    case known =>
      obtain ⟨k, hk, hcode⟩ := Kind.ofCode_some hlow hhigh
      rw [← hcode, ← heq]
      refine ⟨fun hne hlength => ?_, fun hmessage hempty => ?_, fun hlength => ?_⟩
      · exact decodeSelection_length (whole heq hlen) hk
          (parseRequest_none (mt (Kind.postMessage_iff k).mp hne) hlength)
      · obtain rfl := (Kind.postMessage_iff k).mpr hmessage
        obtain rfl := List.length_eq_zero_iff.mp hempty
        exact decodeSelection_length (whole heq hlen) hk rfl
      · obtain ⟨c, hc⟩ : ∃ c, parseRequest k p params = some c := by
          obtain ⟨hne, hlength⟩ | ⟨hmessage, hsome⟩ := hlength
          · exact Option.isSome_iff_exists.mp (parseRequest_isSome (mt (Kind.postMessage_iff k).mp hne) p hlength)
          · obtain rfl := (Kind.postMessage_iff k).mpr hmessage
            cases params with
            | nil => exact absurd hsome (by simp)
            | cons target text =>
              rw [List.length_cons] at heq
              exact ⟨_, parseRequest_message (by omega)⟩
        exact ⟨c, k, decodeSelection_request (whole heq hlen) hk hc, rfl, (parseRequest_some hc).1⟩

end Sys2Proof.Machine
end


section
/-! The eight status reads (R16, R39, R74, R107, R118, R158, R181, R190), their presence fields and their codes. -/

namespace Sys2Proof.Machine

/-- A read whose results are given items answers with them and changes nothing but its port's buffers. -/
theorem request_items {p : Port} (k : Kind) (f : State → List Byte) {s : State} {items : List Byte}
    (hp : s.powered = true) (hr : k.ports.has p = true) (h : f s = items) :
    request p k (fun s => { state := s, status := .ok, results := f s }) s = .next (s.putReply p k.code .ok items) :=
  request_answer hp hr (congrArg (Answer.mk s .ok) h)

/-! ## The presence field (R204) -/

theorem leBytes_getD {n i : Nat} (v : Nat) (h : i < n) : (leBytes n v).getD i 0#8 = BitVec.ofNat 8 (v / 256 ^ i) := by
  induction n generalizing v i with
  | zero => exact absurd h (Nat.not_lt_zero i)
  | succ n ih =>
    cases i with
    | zero => simp [leBytes]
    | succ i => rw [leBytes, List.getD_cons_succ, ih _ (Nat.lt_of_succ_lt_succ h), Nat.div_div_eq_div_mul, Nat.pow_succ']

theorem flagBits_testBit (items : List Bool) (k : Nat) : (flagBits items).testBit k = items.getD k false := by
  induction items generalizing k with
  | nil => simp [flagBits]
  | cons b items ih =>
    cases k with
    | zero => cases b <;> simp [flagBits]
    | succ k =>
      have hhalf : flagBits (b :: items) / 2 = flagBits items := by
        rw [flagBits]
        split <;> omega
      rw [Nat.testBit_succ, hhalf, ih, List.getD_cons_succ]

theorem presence_length (items : List Bool) : (presence items).length = (items.length + 7) / 8 := leBytes_length _ _

theorem presence_bit (items : List Bool) (k : Nat) :
    ((presence items).getD (k / 8) 0#8).getLsbD (k % 8) = items.getD k false := by
  by_cases h : k / 8 < (items.length + 7) / 8
  · have hk : k % 8 < 8 := Nat.mod_lt k (by decide)
    rw [presence, leBytes_getD _ h, BitVec.getLsbD_ofNat, decide_eq_true hk, Bool.true_and,
      show 256 = 2 ^ 8 from rfl, ← Nat.pow_mul, Nat.testBit_div_two_pow, flagBits_testBit]
    congr 1
    omega
  · have hbytes : (presence items)[k / 8]? = none :=
      List.getElem?_eq_none (Nat.le_trans (Nat.le_of_eq (presence_length items)) (Nat.not_lt.mp h))
    have hitems : items[k]? = none := List.getElem?_eq_none (by omega)
    simp [List.getD_eq_getElem?_getD, hbytes, hitems]

/-! ## Items of the reads -/

theorem yesNo_moving (m : Measurement) : yesNo m.moving =
    u8 (if m.cal.interlock ≠ 0 ∧ m.cal.interlock < m.last.smoothed then 1 else 0) :=
  congrArg u8 (ite_of_iff m.moving_iff)

theorem sealCode_eq (x : Seal) : sealCode x = if x = .closed then 1 else 0 := by cases x <;> rfl

theorem causeCode_eq (x : CloseCause) : causeCode x = if x = .expired then 1 else 0 := by cases x <;> rfl

theorem slotSummary_eq : slotSummary = fun x => match x with
    | none => u8 0 ++ u32 0 ++ u32 0 ++ u32 0
    | some y => u8 (partyStateCode y.state) ++ u32 y.hire ++ u32 y.due ++ u32 y.remaining :=
  funext fun x => by cases x <;> rfl

theorem recentBytes_eq : recentBytes = fun x =>
    u16 x.payment ++ u8 x.slot.val ++ u32 x.hire ++ u8 (if x.cause = .expired then 1 else 0) :=
  funext fun x => by rw [recentBytes, causeCode_eq]

theorem RecordStore.oldest_isSome (j : RecordStore) : j.oldest.isSome = !j.stored.isEmpty := by
  rw [RecordStore.oldest]
  cases j.stored <;> rfl

theorem RecordStore.newest_isSome (j : RecordStore) : j.newest.isSome = !j.stored.isEmpty := by
  rw [RecordStore.newest, Option.isSome_map, Bool.eq_iff_iff, List.getLast?_isSome]
  simp

theorem RecordStore.reserves_eq (j : RecordStore) : j.reserves = fun x => match x with
    | none => false
    | some y => !(decide (y.state = .closing) && (j.places ++ j.waiting).any (isTripOf y.hire)) :=
  funext fun x => by cases x <;> rfl

theorem Gate.left_eq : Gate.left = fun g => match g with
    | .releasing n => some n
    | _ => none :=
  funext fun g => by cases g <;> rfl

theorem Sign.channels_eq (g : Sign) : (mapFrom (channelBytes g) 0 g.lamps.toArray.toList).flatten =
    channelBytes g 0 g.lamps[(0 : Fin 4)] ++ channelBytes g 1 g.lamps[(1 : Fin 4)] ++
      channelBytes g 2 g.lamps[(2 : Fin 4)] ++ channelBytes g 3 g.lamps[(3 : Fin 4)] := by
  rw [Vector.toList_eq_map, show List.finRange 4 = [0, 1, 2, 3] from rfl]
  simp only [List.map_cons, List.map_nil, mapFrom, List.flatten_cons, List.flatten_nil, List.append_nil,
    List.append_assoc]

theorem routeResults_eq (n : Notices) : routeResults n = (List.finRange 20).flatMap
    (fun i => u8 (portSetCode n.routes[i]) ++ u8 (portSetCode mandatoryMinimums[i])) := by
  rw [routeResults, Vector.toList_eq_map, Vector.toList_eq_map, List.zip_map', List.flatMap_map]

theorem isTripOf_iff (hire : Nat) (b : EntryBody) : isTripOf hire b = true ↔ ∃ e, b = .trip e ∧ e.hire = hire := by
  cases b with
  | trip e => simp [isTripOf]
  | shift | orphan | calibration | tariff => simp [isTripOf]

/-- Settles O49: the items of each read, the presence field, and the codes. -/
theorem stateIsReported : Obligations.StateIsReported := by
  intro s p hp
  have every := Port.every_has p
  refine ⟨?motion, ?tariffs, ?parties, ?payment, ?journal, ?sign, ?intercom, ?routes,
    fun items => ⟨presence_length items, presence_bit items⟩, fun c n k ceiling => rfl, fun v => rfl, rfl, rfl, rfl, rfl,
    fun n => rfl, rfl, rfl, rfl, rfl, rfl, fun b => ?entries, ⟨fun f => rfl, fun x => rfl⟩, isTripOf_iff⟩
  case motion =>
    refine request_items .readMotion (fun s => motionResults s.meas) hp every ?_
    rw [motionResults, yesNo_moving, sealCode_eq]
  case tariffs =>
    refine request_items .tariffStatus (fun s => tariffStatusResults s.store) hp every ?_
    rw [tariffStatusResults, codeOrZero_eq, codeOrZero_eq, clockValue]
    simp only [← List.append_assoc]
    rfl
  case parties =>
    refine request_items .listParties listResults hp every ?_
    rw [listResults, slotSummary_eq]
    rfl
  case payment =>
    refine request_items .readPayment paymentResults hp every ?_
    rw [paymentResults, recentBytes_eq]
    cases s.pay.session <;> rfl
  case journal =>
    refine request_items .journalStatus journalResults hp every ?_
    rw [journalResults, RecordStore.oldest_isSome, RecordStore.newest_isSome, State.reserve, RecordStore.reserves_eq]
    rfl
  case sign =>
    refine request_items .readSign (fun s => signResults s.sign) hp every ?_
    rw [signResults, Sign.channels_eq]
    rfl
  case intercom =>
    refine request_items .readIntercom intercomResults hp every ?_
    rw [intercomResults, Gate.left_eq]
    rfl
  case routes => exact request_items .readRoutes (fun s => routeResults s.notices) hp every (routeResults_eq s.notices)
  case entries => cases b <;> rfl

end Sys2Proof.Machine
end


section
/-! TARIFF_READ, READ_PARTY, SHIFT_PREVIEW and READ_TOTALIZERS (R28, R73, R137, R145), and the bytes of their records. -/

namespace Sys2Proof.Machine

/-! ## TARIFF_READ (R28) -/

section TariffRead

variable {s : State} {kind n : Byte} {k : ItemKind} {item : TariffSet → List Byte}

/-- The items that TARIFF_READ can name, each with its bytes. -/
theorem TariffSet.item_named
    (h : (∃ i : Fin 8, n.toNat = i.val + 1 ∧
        (kind = 0#8 ∧ item = (fun t => itemBytes tariffFields t.tariffs[i]) ∨
         kind = 1#8 ∧ item = (fun t => itemBytes extraKindFields t.extraKinds[i]))) ∨
      (∃ i : Fin 16, n.toNat = i.val + 1 ∧ kind = 2#8 ∧ item = (fun t => itemBytes zoneRuleFields t.zoneRules[i])) ∨
      (kind = 3#8 ∧ item = (fun t => u8 1 ++ defaultsFields t))) :
    ∃ k, itemKindOf kind = some k ∧ ∀ t : TariffSet, t.item k n = some (item t) := by
  obtain ⟨i, hn, ⟨rfl, rfl⟩ | ⟨rfl, rfl⟩⟩ | ⟨i, hn, rfl, rfl⟩ | ⟨rfl, rfl⟩ := h
  · exact ⟨.tariff, rfl, fun t => by rw [TariffSet.item, numberOf_eq hn]; rfl⟩
  · exact ⟨.extraKind, rfl, fun t => by rw [TariffSet.item, numberOf_eq hn]; rfl⟩
  · exact ⟨.zoneRule, rfl, fun t => by rw [TariffSet.item, ruleNumberOf_eq hn]; rfl⟩
  · exact ⟨.defaults, rfl, fun t => rfl⟩

theorem tariffRead_active (hkind : itemKindOf kind = some k) (hitem : ∀ t : TariffSet, t.item k n = some (item t)) :
    tariffRead 0#8 kind n s = ⟨s, .ok, item s.store.active ++ u8 1 ++ u16 s.store.activeVersion.toNat⟩ := by
  have hset : flagOf 0#8 = some false := rfl
  simp only [tariffRead, hset, hkind, hitem]
  rfl

theorem tariffRead_staged (hkind : itemKindOf kind = some k) (hitem : ∀ t : TariffSet, t.item k n = some (item t)) :
    tariffRead 1#8 kind n s = if s.store.stage = .idle then refuse s .state
      else ⟨s, .ok, withVersion (item s.store.staged) s.store.stage.version⟩ := by
  have hset : flagOf 1#8 = some true := rfl
  simp only [tariffRead, hset, hkind, hitem, true_and]
  rfl

end TariffRead

/-! ## READ_PARTY (R73) -/

theorem readParty_slot {s : State} {slot : Byte} {i : Fin 4} (h : slot.toNat = i.val) :
    readParty slot s = ⟨s, .ok, partyBytes s.meas.cal.k i.val (s.party i)⟩ := by
  simp only [readParty, slotOf_eq h]

theorem flagBits_four (a b c d : Bool) : flagBits [a, b, c, d] =
    (if a then 1 else 0) + (if b then 2 else 0) + (if c then 4 else 0) + (if d then 8 else 0) := by
  revert a b c d
  decide

theorem flagBits_seven (a b c d e f g : Bool) : flagBits [a, b, c, d, e, f, g] = (if a then 1 else 0) +
    (if b then 2 else 0) + (if c then 4 else 0) + (if d then 8 else 0) + (if e then 16 else 0) + (if f then 32 else 0) +
      (if g then 64 else 0) := by
  revert a b c d e f g
  decide

theorem leBytes_seven (n : Nat) : leBytes 7 n = u32 n ++ u16 (n / 4294967296) ++ u8 (n / 281474976710656) := by
  simp only [u32, u16, u8, leBytes, Nat.div_div_eq_div_mul]
  rfl

theorem numberCode_eq (n : Option (Fin 8)) : numberCode n = (n.map (·.val + 1)).getD 0 := by cases n <;> rfl

/-- R201: the record of a non-vacant slot, for a distance that its field holds. -/
theorem partyBytes_eq {k : Nat} (slot : Nat) {x : Party} (h : x.pulses * 1000 / k ≤ max32) :
    partyBytes k slot (some x) = u8 slot ++ u8 (partyStateCode x.state) ++
      u8 ((if x.stopTime.isSome then 1 else 0) + (if x.zoneAtStart.isSome then 2 else 0) + (if x.pin.isSome then 4 else 0) +
        (if x.payment.isSome then 8 else 0)) ++
      u8 ((if x.saturated then 1 else 0) + (if x.extraDropped then 2 else 0) + (if x.powerInterrupted then 4 else 0) +
        (if x.lateApproval then 8 else 0) + (if x.excessCharged then 16 else 0) + (if x.joining then 32 else 0) +
        (if x.counted then 64 else 0)) ++
      u32 x.hire ++ u32 x.startTime.clock ++ u32 ((x.stopTime.map (·.clock)).getD 0) ++
      u8 ((if x.startTime.invalid then 1 else 0) + (if (x.stopTime.map (·.invalid)).getD false then 2 else 0)) ++
      u16 ((x.zoneAtStart.map (·.toNat)).getD 0) ++ u8 (x.current.val + 1) ++ u8 (x.first.val + 1) ++
      u8 ((x.pin.map (·.val + 1)).getD 0) ++ u8 x.mostConcurrent ++ u16 x.switches ++
      (u32 x.progress ++ u16 (x.progress / 4294967296) ++ u8 (x.progress / 281474976710656)) ++ u8 x.prepaid ++
      u32 x.steps ++ u32 x.fare ++ u32 x.pulses ++ u32 x.windows ++ u32 x.tip ++ u16 (x.payment.getD 0) ++
      u16 x.chargedRules.toNat ++ u32 (extrasTotal x.extras) ++ u32 x.due ++ u32 (tendersTotal x.tenders) ++
      u32 x.remaining ++ u32 (x.pulses * 1000 / k) ++ u32 x.seconds ++ u8 x.extras.length ++ u8 x.tenders.length ++
      x.extras.flatMap extraBytes ++ x.tenders.flatMap tenderBytes := by
  have hmetres : metresField (x.metres k) = u32 (x.pulses * 1000 / k) := metresField_eq h
  unfold partyBytes
  dsimp only
  rw [hmetres, flagBits_four, flagBits_seven, flagBits_two, leBytes_seven, codeOrZero_eq, numberCode_eq]

/-! ## SHIFT_PREVIEW (R137) -/

section Preview

variable {s : State} {r : ShiftReport}

theorem shiftPreview_ports {p : Port} (h : p ≠ .partition) : Kind.shiftPreview.ports.has p = true := addExtra_ports h

theorem State.preview_opened (h : s.shift.state = .opened) : s.preview =
    some (s.shift.report (s.shift.number.getD 0) s.meas.cal.k s.shift.commission (some s.store.now)) := by
  rw [State.preview, h]

theorem State.preview_closing (h : s.shift.state = .closing) : s.preview = some (s.shift.report
    (s.shift.number.getD 0) (s.shift.closingK.getD s.meas.cal.k) (s.shift.closingRate.getD 0) none) := by
  rw [State.preview, h]

theorem State.preview_closed (h : s.shift.state = .closed) {number : Nat} (hn : lastClosed s.shift.number = some number) :
    s.preview = some (s.shift.report number (s.shift.closingK.getD s.meas.cal.k) (s.shift.closingRate.getD 0)
      s.shift.closeTime) := by
  rw [State.preview, h, hn]
  rfl

theorem lastClosed_earlier {number : Option Nat} (h : 1 < number.getD 0) :
    lastClosed number = some (number.getD 0 - 1) := by
  cases number with
  | none => exact absurd h (by decide)
  | some n => exact if_neg (Nat.not_le.mpr h)

theorem shiftPreview_report (h : s.preview = some r) : shiftPreview s =
    ⟨s, .ok, u8 (if r.closeTime.isSome then 1 else 0) ++ u8 (shiftStateCode s.shift.state) ++ reportItems r⟩ := by
  simp only [shiftPreview, h, presence_one]

theorem shiftPreview_never (h : s.shift.state = .closed) (hn : s.shift.number = some 1) :
    shiftPreview s = refuse s .state := by
  have hnone : s.preview = none := by
    rw [State.preview, h, hn]
    rfl
  simp only [shiftPreview, hnone]

end Preview

/-! ## The items of a tariff set (R203) -/

theorem tariffFields_eq (x : Tariff) : tariffFields x = u32 x.flagFall ++ u8 x.prepaid ++ u32 x.stepAmount ++
    u16 x.distanceStep ++ u16 x.timeStep ++ u8 (match x.mode with | .single => 0 | .double => 1) ++ u16 x.f1 ++ u16 x.f2 ++
      u16 x.f3 ++ u16 x.f4 := rfl

theorem extraKindFields_eq (x : ExtraKind) : extraKindFields x =
    u8 (match x.cls with | .surcharge => 0 | .passThrough => 1) ++ u32 x.amount ++
    u8 ((if x.permitted.console then 1 else 0) + (if x.permitted.partition then 2 else 0) +
      (if x.permitted.fleet then 4 else 0)) ++ List.replicate 16 0#8 := by
  rw [extraKindFields]
  cases x.cls <;> rfl

/-- Settles O50: the four reads, and the bytes of their records. -/
theorem recordsAreReported : Obligations.RecordsAreReported := by
  have every := Port.every_has
  refine ⟨fun s p kind n item hp h => ?tariff, fun s p slot i hp hslot => ⟨fun h => ?vacant, fun x h => ?party⟩,
    fun s p hp hport => ?preview, fun s p hp => request_items .readTotalizers totalizerResults hp (every p) rfl,
    fun k slot x h => ⟨rfl, ?record, rfl, rfl⟩, ⟨rfl, rfl, rfl, rfl⟩, extraBytes_eq,
    fun a pay ref excess above => ⟨rfl, rfl, rfl, rfl, rfl, rfl⟩, ?fields⟩
  case tariff =>
    obtain ⟨k, hkind, hitem⟩ := TariffSet.item_named h
    have hstaged := tariffRead_staged (s := s) hkind hitem
    refine ⟨request_answer hp (every p) (tariffRead_active hkind hitem), fun hidle => ?idle, fun hloading => ?loading,
      fun v hv => ?versioned⟩
    case idle => exact request_refused hp (every p) (hstaged.trans (if_pos hidle))
    case loading =>
      rw [hloading] at hstaged
      exact request_answer hp (every p) hstaged
    case versioned =>
      obtain hv | hv := hv <;> rw [hv] at hstaged <;> exact request_answer hp (every p) hstaged
  case vacant | party =>
    have hread := readParty_slot (s := s) hslot
    rw [h] at hread
    exact request_answer hp (every p) hread
  case preview =>
    intro report now n k rate
    have answered {r : ShiftReport} (h : s.preview = some r) :=
      request_answer hp (shiftPreview_ports hport) (shiftPreview_report h)
    refine ⟨fun h => ?opened, fun h => ?closing, fun x h hn hx => ?earlier, fun x h hn hx => ?exhausted,
      fun h hn => request_refused hp (shiftPreview_ports hport) (shiftPreview_never h hn)⟩
    case opened =>
      have hanswer := answered (State.preview_opened h)
      rw [h] at hanswer
      exact hanswer
    case closing =>
      have hanswer := answered (State.preview_closing h)
      rw [h] at hanswer
      exact hanswer
    case earlier =>
      have hanswer := answered (State.preview_closed h (lastClosed_earlier hn))
      rw [h, hx] at hanswer
      exact hanswer
    case exhausted =>
      have hanswer := answered (State.preview_closed h (congrArg lastClosed hn))
      rw [h, hx] at hanswer
      exact hanswer
  case record => exact partyBytes_eq slot h
  case fields =>
    intro number
    exact ⟨tariffFields_eq, extraKindFields_eq,
      fun x => by rw [zoneRuleFields, numberCode_eq, numberCode_eq, numberCode_eq, numberCode_eq]; rfl,
      fun x => rfl, fun x => rfl, rfl, fun x => rfl, rfl, fun x => rfl, rfl⟩

end Sys2Proof.Machine
end
